-- ==== Sys2Proof/Word.lean ====
section
/-!
DEFINITION. The word types of the Verokta 7120 model: a byte of a frame, a 16-bit field of a frame, and a value of the
Line Clock. The helpers that read and write fields stand in Sys2Proof/Machine/Operands.lean.
-/

namespace Sys2Proof

/-- One byte of a frame (R192), and every 8-bit number the manual lets wrap: a sequence number, a bank generation. -/
abbrev Byte := BitVec 8

/-- A 16-bit field that the manual masks or compares bit by bit: maker and model codes (R3), a findings set (R191). -/
abbrev Word16 := BitVec 16

/-- A value of the Line Clock: a 32-bit count of milliseconds that wraps (R67). -/
abbrev Clock := BitVec 32

end Sys2Proof
end

