-- ==== Sys2Proof/Syntax.lean ====
section
/-!
DEFINITION. The commands of the Verokta 7120: one constructor for each row of spec/opcode_table.json.

A row that is a frame completing its arrival carries what that row leaves open of the frame: the header fields a sender
chooses (`Hdr`) and the payload bytes. The row fixes the rest: the destination (the part's own latched address, unless the
row carries one), the kind, and for a station event or a request its code. Payload bytes are kept raw, so that a frame of
any length and any field value can be written. A row that is a deadline of a station carries the station's index.
-/

namespace Sys2Proof

/-- The header fields of R192 that the sender of a frame chooses: its source address, its sequence number, the taken mark
as it stands when the frame reaches the part, and the three spare bits. -/
structure Hdr where
  src : Byte
  seq : Byte
  taken : Bool
  spare : BitVec 3
  deriving DecidableEq, Repr

/-- The commands, in the order of spec/opcode_table.json. Each docstring names the row's rule. -/
inductive Instr where
  /-- R188: the reset pin is released. -/
  | powerOnReset
  /-- R158: a frame begins to arrive while all four places of the Transit Buffer are held. -/
  | transitOverrun
  /-- R170: idle fill is received on the IN pair. -/
  | idleFill
  /-- R159: a frame completes its arrival and fails its check; the bytes received, check bytes included. -/
  | checkFailure (bytes : List Byte)
  /-- R160: a frame not addressed to the part completes its arrival. -/
  | transitFrame (dst : Byte) (h : Hdr) (kind : BitVec 4) (payload : List Byte)
  /-- R161: a frame addressed to the part, from any source and of any kind, completes its arrival. -/
  | ignoredFrame (h : Hdr) (kind : BitVec 4) (payload : List Byte)
  /-- R166: a frame whose source is the part's own address comes back round the ring. -/
  | ownFrameReturn (dst : Byte) (kind : BitVec 4) (seq : Byte) (taken : Bool) (payload : List Byte)
  /-- R168: the return deadline of the frame in flight with this sequence number expires. -/
  | returnDeadline (seq : Byte)
  /-- R165: the OUT pair is free and the Transmit Arbiter gives it. -/
  | transmitArbitration
  /-- R164: the last byte of an own frame leaves the OUT pair. -/
  | frameSent
  /-- R171: 20 ms have passed without line activity. -/
  | ringLoss
  /-- R32: a TAG, as from an intake reader. -/
  | intakeRead (h : Hdr) (payload : List Byte)
  /-- R51: a FINDING. -/
  | finding (h : Hdr) (payload : List Byte)
  /-- R87: a SAMPLE. -/
  | sample (h : Hdr) (payload : List Byte)
  /-- R69: a STATION EVENT of code 1, SEATED, with its argument bytes. -/
  | seated (h : Hdr) (arg : List Byte)
  /-- R75: a STATION EVENT of code 2, SEAL FAULT, with its argument bytes (none when well formed). -/
  | sealFault (h : Hdr) (arg : List Byte)
  /-- R96: a STATION EVENT of code 3, REACHED, with its argument bytes. -/
  | reached (h : Hdr) (arg : List Byte)
  /-- R105: a STATION EVENT of code 4, VENTED, with its argument bytes. -/
  | vented (h : Hdr) (arg : List Byte)
  /-- R76: a STATION EVENT of code 5, RELEASED, with its argument bytes. -/
  | released (h : Hdr) (arg : List Byte)
  /-- R77: a STATION EVENT of code 6, BURST, with its argument bytes. -/
  | burst (h : Hdr) (arg : List Byte)
  /-- R78: a STATION EVENT with any payload. -/
  | unknownStationEvent (h : Hdr) (payload : List Byte)
  /-- R145: a TAG, as from the press's arrival reader. -/
  | arrivalAtPress (h : Hdr) (payload : List Byte)
  /-- R152: a TAG, as from the scrap cell's arrival reader. -/
  | arrivalAtScrapCell (h : Hdr) (payload : List Byte)
  /-- R150: a DONE, as from the press. -/
  | doneFromPress (h : Hdr) (payload : List Byte)
  /-- R152: a DONE, as from the scrap cell. -/
  | doneFromScrapCell (h : Hdr) (payload : List Byte)
  /-- R68: the supervision scan of the Line Clock. -/
  | supervisionScan
  /-- R94: the zero deadline of a station expires. -/
  | zeroDeadline (i : Fin 8)
  /-- R97: the step deadline of a station expires. -/
  | stepDeadline (i : Fin 8)
  /-- R101: the hold deadline of a station expires. -/
  | holdDeadline (i : Fin 8)
  /-- R102: an extension check of a station expires. -/
  | extensionCheck (i : Fin 8)
  /-- R106: the vent deadline of a station expires. -/
  | ventDeadline (i : Fin 8)
  /-- R107: the settle deadline of a station expires. -/
  | settleDeadline (i : Fin 8)
  /-- R109: the release deadline of a station expires. -/
  | releaseDeadline (i : Fin 8)
  /-- R151: the stamp deadline expires. -/
  | stampDeadline
  /-- R152: the condemn deadline expires. -/
  | condemnDeadline
  /-- R187: the write to the Option Store completes. -/
  | optionStoreWriteComplete
  /-- R176: a REQUEST with any payload, the tag and the request code among its bytes. -/
  | unknownRequest (h : Hdr) (payload : List Byte)
  /-- R10: REQUEST 1, with its tag and argument bytes. -/
  | readTypeEntry (h : Hdr) (tag : Byte) (args : List Byte)
  /-- R8: REQUEST 2. -/
  | writeTypeEntry (h : Hdr) (tag : Byte) (args : List Byte)
  /-- R10: REQUEST 3. -/
  | readMatchEntry (h : Hdr) (tag : Byte) (args : List Byte)
  /-- R9: REQUEST 4. -/
  | writeMatchEntry (h : Hdr) (tag : Byte) (args : List Byte)
  /-- R16: REQUEST 5. -/
  | copyActiveToStandby (h : Hdr) (tag : Byte) (args : List Byte)
  /-- R17: REQUEST 6. -/
  | activateStandby (h : Hdr) (tag : Byte) (args : List Byte)
  /-- R10: REQUEST 7. -/
  | readBankStatus (h : Hdr) (tag : Byte) (args : List Byte)
  /-- R180: REQUEST 8. -/
  | readUnitRole (h : Hdr) (tag : Byte) (args : List Byte)
  /-- R180: REQUEST 9. -/
  | writeUnitRole (h : Hdr) (tag : Byte) (args : List Byte)
  /-- R63: REQUEST 10. -/
  | readStationEntry (h : Hdr) (tag : Byte) (args : List Byte)
  /-- R63: REQUEST 11. -/
  | writeStationEntry (h : Hdr) (tag : Byte) (args : List Byte)
  /-- R81: REQUEST 12 with the service value 1 (in); the index byte is the operand. -/
  | setStationServiceIn (h : Hdr) (tag : Byte) (index : Byte)
  /-- R82: REQUEST 12 with the service value 0 (out); the index byte is the operand. -/
  | setStationServiceOut (h : Hdr) (tag : Byte) (index : Byte)
  /-- R83: REQUEST 13. -/
  | clearStationFault (h : Hdr) (tag : Byte) (args : List Byte)
  /-- R179: REQUEST 14. -/
  | readRecord (h : Hdr) (tag : Byte) (args : List Byte)
  /-- R43: REQUEST 15. -/
  | removeRecord (h : Hdr) (tag : Byte) (args : List Byte)
  /-- R181: REQUEST 16. -/
  | setCalendar (h : Hdr) (tag : Byte) (args : List Byte)
  /-- R141: REQUEST 17. -/
  | gateOpen (h : Hdr) (tag : Byte) (args : List Byte)
  /-- R141: REQUEST 18. -/
  | gateClose (h : Hdr) (tag : Byte) (args : List Byte)
  /-- R183: REQUEST 19 with the action 0 (keep); the group byte is the operand. -/
  | readTallies (h : Hdr) (tag : Byte) (group : Byte)
  /-- R183: REQUEST 19 with the action 1 (clear); the group byte is the operand. -/
  | clearingReadOfTallies (h : Hdr) (tag : Byte) (group : Byte)
  /-- R188: REQUEST 20. -/
  | readOptions (h : Hdr) (tag : Byte) (args : List Byte)
  /-- R187: REQUEST 21. -/
  | writeOptions (h : Hdr) (tag : Byte) (args : List Byte)
  /-- R189: REQUEST 22. -/
  | lineReset (h : Hdr) (tag : Byte) (args : List Byte)
  /-- R158: a frame begins to arrive while a place of the Transit Buffer is free. -/
  | frameBeginsToArrive
  /-- R158: the last byte of a forwarded transit frame leaves the OUT pair. -/
  | transitFrameForwarded
  deriving DecidableEq, Repr

end Sys2Proof
end

