-- ==== Sys2Proof/Decode.lean ====
section
/-!
DEFINITION. The command that a word of spec/opcode_table.json spells. No row of that table gives bits (the part has no
instruction words: 00_scope.md, "frame-driven line processor"), so no word spells a command.
-/

namespace Sys2Proof

/-- The command spelled by an `nbits`-bit word `w` of the table: none, since the table gives no row any bits. -/
def decodeTableWord (_nbits _w : Nat) : Option Instr := none

end Sys2Proof
end

