-- ==== Sys2Proof/Config.lean ====
section
/-!
DEFINITION. What the manual leaves open and the model leaves free: constants without a body. Nothing in Lean can compute
one, so every theorem of the package holds whatever their values are. Each has a row of the assumption log.
-/

namespace Sys2Proof.Config

/-- R188: a WRITE OPTIONS cut short by a power-on reset leaves the Option Store holding the five values from before it or
the five new ones; the manual does not say which. `true`: the new ones. The argument is the state's count of such cuts,
so that two cuts need not agree. Log entry 4. -/
opaque cutWriteLeavesNew : Nat → Bool

/-- R197 codes an entry's valid mark as "valid, 1 set" and gives no meaning to a byte other than 0 and 1. `true`: such a
byte reads as set. Log entry 5. -/
opaque oddValidMarkIsSet : Byte → Bool

/-- R179 and R198 do not order READ RECORD's check of the part against its checks of the record's name, and both may fail.
`true`: the part is checked first. Log entry 6. -/
opaque partIsCheckedFirst : Bool

/-- R81, R82 and R194 do not order SET STATION SERVICE's check of the service value against its check of the index, and both
may fail. `true`: the service value is checked first. Log entry 28. -/
opaque serviceIsCheckedFirst : Bool

end Sys2Proof.Config
end

