-- ==== Sys2Proof/Machine/State.lean ====
section
/-!
DEFINITION. The state of the Verokta 7120 as plain data, block by block as 00_scope.md gives each piece of lasting state
its owner, and its value after power-on reset. Every piece of state the manual names is a field; the fields that are the
model's own are marked so.
-/

namespace Sys2Proof.Machine

/-- A record number, 0..127 (R21). -/
abbrev RecNo := Fin 128
/-- An index of the Station Table, 0..7 (R62). -/
abbrev StationNo := Fin 8
/-- A type code, 0..63 (R1). -/
abbrev TypeCode := Fin 64

/-! ## Code values that several blocks share (R196) -/

/-- R196, the reasons: of verdicts, of pre-pressure aborts and of CONDEMN orders. -/
inductive Reason where
  | finding | weightLoss | life | burst | overpressure | elastic | permanent | seal | sensor | zeroUnstable | stepTimeout
  | pressureLost | unstable | sampleGaps | ventTimeout | superseded | silent | ringLoss | aborted | noExpansion
  | unknownType | tagDate | noTare
  deriving DecidableEq, Repr

/-- R123: a verdict is a kind and, but for PASS, a reason. -/
inductive Verdict where
  | pass
  | condemn (r : Reason)
  | retest (r : Reason)
  | hold (r : Reason)
  deriving DecidableEq, Repr

/-- R28: why a record is in HOLD. -/
inductive HoldReason where
  | unknownType | tagDate | finding | noTare | retestsExhausted | listFull | pressOffline | scrapOffline
  | routeUnconfirmed | misroute | stampFault | stampUnconfirmed | condemnFault | condemnUnconfirmed
  deriving DecidableEq, Repr

/-- R178: the status of a REPLY. -/
inductive Status where
  | done | busy | badIndex | badValue | notReady | absent | wrongBank | emptyBank | notPermitted | unknownRequest
  deriving DecidableEq, Repr

/-- R180: the role a ring address holds; `unassigned` is the manual's NONE. -/
inductive Role where
  | unassigned | intakeReader | inspection | markingPress | scrapCell | diverter
  deriving DecidableEq, Repr

/-- R137: the lane of a route entry. -/
inductive Lane where
  | test | mark | scrap | hold
  deriving DecidableEq, Repr

/-! ## Type Bank Unit (chapter 1) -/

/-- R1: the two banks. -/
inductive BankId where
  | a | b
  deriving DecidableEq, Repr

/-- R1, R11: the part a bank plays in the line. -/
inductive BankState where
  | active | standby | retiring
  deriving DecidableEq, Repr

/-- R3: a match entry. -/
structure MatchEntry where
  valid : Bool
  makerKey : Word16
  makerMask : Word16
  modelKey : Word16
  modelMask : Word16
  code : TypeCode
  deriving DecidableEq, Repr

/-- R6: a type entry, in the units and order of that rule. -/
structure TypeEntry where
  valid : Bool
  pt : Nat
  band : Nat
  ree : Nat
  permLimit : Nat
  steps : Nat
  stepTimeout : Nat
  zeroTimeout : Nat
  holdTime : Nat
  stabBand : Nat
  window : Nat
  maxExtension : Nat
  ventTimeout : Nat
  settleTime : Nat
  retestLimit : Nat
  tareLossLimit : Nat
  serviceLife : Nat
  required : BitVec 8
  condemnMask : Word16
  holdMask : Word16
  deriving DecidableEq, Repr

/-- R1: one bank. -/
structure Bank where
  state : BankState
  gen : Byte
  refs : Nat
  matchTable : Vector MatchEntry 64
  typeTable : Vector TypeEntry 64
  deriving DecidableEq, Repr

/-- R1: the Type Bank Unit. -/
structure TypeBanks where
  a : Bank
  b : Bank
  deriving DecidableEq, Repr

/-! ## Record Table (chapters 2 and 3) -/

/-- R25: the twelve states of a record. -/
inductive RecState where
  | identified | inspected | onTest | retestWait | markPending | atPress | scrapPending | atScrapCell | hold | marked
  | scrapped | lost
  deriving DecidableEq, Repr

/-- R22: the state a record ON TEST left when it was seated. -/
inductive SeatedFrom where
  | inspected | retestWait
  deriving DecidableEq, Repr

/-- R23, R53: the weight check. -/
inductive WeightCheck where
  | notDone | ok | loss | noTagTare
  deriving DecidableEq, Repr

/-- R22: the bank a record names, with its generation. -/
structure BankRef where
  bank : BankId
  gen : Byte
  deriving DecidableEq, Repr

/-- A captured level and clamped temperature: (Z0, T0), (Lt, Tt) or (Lp, Tp). -/
structure Reading where
  level : Nat
  temp : Nat
  deriving DecidableEq, Repr

/-- R100: the lowest and the highest pressure of a hold. -/
structure PressureRange where
  pmin : Nat
  pmax : Nat
  deriving DecidableEq, Repr

/-- R116: the clamp flags of a permanent expansion. -/
structure ClampFlags where
  negative : Bool
  exceeds : Bool
  deriving DecidableEq, Repr

/-- R116 to R118: the figures formed when E_t is 1 or more. -/
structure Permanent where
  ep : Nat
  elastic : Nat
  ratio : Nat
  deriving DecidableEq, Repr

/-- R115: what the Expansion Calculator writes: E_t with the clamp flags, and the permanent figures where it forms them. -/
structure Expansion where
  et : Int
  flags : ClampFlags
  perm : Option Permanent
  deriving DecidableEq, Repr

/-- R23, R110: the result of the latest test that reached pressure; a member the test has not reached is absent. -/
structure TestResult where
  station : StationNo
  attempt : Nat
  gen : Byte
  zero : Reading
  gaps : Nat
  pressures : Option PressureRange
  total : Option Reading
  settled : Option Reading
  expansion : Option Expansion
  deriving DecidableEq, Repr

/-- R22, R23: a cylinder record. The record number is the place it stands in. A serial is its characters' codes (R191). -/
structure Record where
  serial : List Byte
  state : RecState
  seatedFrom : Option SeatedFrom
  maker : Word16
  model : Word16
  year : Nat
  tagTare : Option Nat
  typeCode : Option TypeCode
  bank : Option BankRef
  openSeq : BitVec 32
  items : BitVec 8
  findings : Word16
  measuredTare : Option Nat
  weight : WeightCheck
  attempts : Nat
  retestsLeft : Nat
  lastAbort : Option Reason
  result : Option TestResult
  verdict : Option Verdict
  holdReason : Option HoldReason
  passedBy : Nat
  clash : Nat
  deriving DecidableEq, Repr

/-- R21, R30: the Record Table: `none` is a free number; the Closed List, oldest first; the open count. -/
structure RecordTable where
  table : Vector (Option Record) 128
  closed : List RecNo
  openCount : BitVec 32
  deriving DecidableEq, Repr

/-! ## Station Table (chapters 4 and 5) -/

/-- R66: the ten states of a station. -/
inductive StState where
  | outOfService | vacant | seated | ramping | holding | venting | settling | releasing | faulted | resync
  deriving DecidableEq, Repr

/-- R62: the configuration of a Station Table entry. -/
structure StationConfig where
  addr : Byte
  k : Nat
  period : Nat
  silence : Nat
  deriving DecidableEq, Repr

/-- R91: a sample in a window, its temperature clamped. -/
structure Sample where
  pressure : Nat
  level : Nat
  temp : Nat
  deriving DecidableEq, Repr

/-- R62, R65, R102: a Station Table entry: its configuration and its runtime context, the extension end among it. -/
structure Station where
  cfg : StationConfig
  state : StState
  record : Option RecNo
  step : Nat
  deadline : Option Clock
  extensionEnd : Option Clock
  window : List Sample
  expected : Option Byte
  gaps : Nat
  pressures : Option PressureRange
  sealPending : Bool
  aborted : Bool
  leaving : Bool
  lastFrame : Clock
  deriving DecidableEq, Repr

/-! ## Dispatch Unit (chapter 7) -/

/-- R137: a route entry; the record is absent for a CLASH and for NO SPACE. -/
structure RouteEntry where
  serial : List Byte
  lane : Lane
  record : Option (RecNo × BitVec 32)
  deriving DecidableEq, Repr

/-- R133, R138: the Route Dispatcher. -/
inductive RouteDispatcher where
  | idle | sending
  deriving DecidableEq, Repr

/-- R133: the in-flight context of a STAMPING or CONDEMNING dispatcher. -/
structure InFlight where
  record : RecNo
  serial : List Byte
  openSeq : BitVec 32
  deadline : Clock
  deriving DecidableEq, Repr

/-- R143, R152: the Mark Dispatcher or the Scrap Dispatcher with its in-flight context. `acting` is STAMPING for the first
and CONDEMNING for the second; the context of REFUSING is the serial refused. -/
inductive ActDispatcher where
  | idle
  | refusing (serial : List Byte)
  | acting (c : InFlight)
  deriving DecidableEq, Repr

/-- R133: the Actuator Gate. -/
inductive Gate where
  | gateClosed | gateOpen
  deriving DecidableEq, Repr

/-- R133: the Dispatch Unit. `diverterHeard` is what R140 asks of the state beyond R133's table: a frame has arrived from the
address holding the DIVERTER role since a write gave it that role (log entry 12). -/
structure DispatchUnit where
  markList : List RecNo
  scrapList : List RecNo
  routes : List RouteEntry
  routeD : RouteDispatcher
  markD : ActDispatcher
  scrapD : ActDispatcher
  gate : Gate
  pressOffline : Bool
  scrapOffline : Bool
  diverterOffline : Bool
  routeStale : Bool
  markStale : Bool
  scrapStale : Bool
  diverterHeard : Bool
  deriving DecidableEq, Repr

/-! ## Ring Port (chapters 8 and 10) -/

/-- R192: a frame as its bytes stand on the ring; `kind` is the whole byte 2, taken mark and spare bits included. -/
structure Frame where
  dst : Byte
  src : Byte
  kind : Byte
  seq : Byte
  len : Byte
  payload : List Byte
  check : Word16
  deriving DecidableEq, Repr

/-- R162: the thirteen originating sources. -/
inductive Src where
  | station (i : StationNo) | mark | scrap | route | reply | notice
  deriving DecidableEq, Repr

/-- R187: a retester mark, four characters. -/
structure RetesterMark where
  c0 : Byte
  c1 : Byte
  c2 : Byte
  c3 : Byte
  deriving DecidableEq, Repr

/-- R195: the orders. A `serial` is a record's serial; a `field` is the 17 bytes of a serial field as they are sent. -/
inductive Order where
  | start (serial : List Byte)
  | step (k target : Nat)
  | vent
  | release
  | abort
  | reject (field : List Byte)
  | stamp (serial : List Byte) (mark : RetesterMark) (month yy : Nat)
  | refuse (field : List Byte)
  | condemn (serial : List Byte) (r : Reason)
  | route (serial : List Byte) (lane : Lane)
  deriving DecidableEq, Repr

/-- R177: what a REPLY carries. -/
structure Reply where
  tag : Byte
  code : Byte
  status : Status
  results : List Byte
  deriving DecidableEq, Repr

/-- R146: the list a LOST NOTICE names. -/
inductive ListId where
  | mark | scrap
  deriving DecidableEq, Repr

/-- R129, R146: the notices. `figures` is the test result as it stands after the verdict, where test figures are present. -/
inductive Notice where
  | verdict (n : RecNo) (serial : List Byte) (v : Verdict) (entered : RecState) (hold : Option HoldReason)
      (retestsLeft : Nat) (figures : Option TestResult)
  | lost (n : RecNo) (serial : List Byte) (v : Option Verdict) (list : ListId)
  deriving DecidableEq, Repr

/-- What an own frame carries: its kind and payload. -/
inductive Body where
  | order (o : Order)
  | reply (r : Reply)
  | notice (n : Notice)
  deriving DecidableEq, Repr

/-- R163, R167: a frame of the part, composed apart from its sequence number, and whether it has been re-injected. -/
structure OwnFrame where
  src : Src
  dst : Byte
  body : Body
  reinjected : Bool
  deriving DecidableEq, Repr

/-- R164: a frame in flight. -/
structure Flight where
  seq : Byte
  frame : OwnFrame
  deadline : Clock
  deriving DecidableEq, Repr

/-- R162: the condition of a source at the Ring Port. -/
inductive Cond where
  | free | queued | onRing
  deriving DecidableEq, Repr

/-- R162: a source's condition and its next-frame slot. -/
structure SourceState where
  cond : Cond
  slot : Option OwnFrame
  deriving DecidableEq, Repr

/-- R158: a held place of the Transit Buffer: its frame is still arriving, or stored and checked, or being sent. -/
inductive Place where
  | arriving
  | stored (f : Frame)
  | leaving (f : Frame)
  deriving DecidableEq, Repr

/-- R164, R165: the OUT pair: idle fill, a transit frame, or an own frame with the bytes it is sent as. `orphan` is set
when the ring is lost while the frame is being sent, so that its record is not kept (R171). -/
inductive OutPair where
  | idle
  | transit (f : Frame)
  | own (q : OwnFrame) (wire : Frame) (orphan : Bool)
  deriving DecidableEq, Repr

/-- R170: the Ring Monitor. -/
inductive Monitor where
  | down | up
  deriving DecidableEq, Repr

/-- Chapter 8: the Ring Port. -/
structure RingPort where
  transit : List Place
  queue : List OwnFrame
  sources : Vector SourceState 13
  flights : List Flight
  nextSeq : Byte
  row : Nat
  out : OutPair
  monitor : Monitor
  lastActivity : Clock
  deriving DecidableEq, Repr

/-! ## Management Responder (chapter 9) -/

/-- R187: the gap mode option. -/
inductive GapMode where
  | lenient | strict
  deriving DecidableEq, Repr

/-- R187: the five options. -/
structure Options where
  own : Byte
  supervisor : Byte
  mark : RetesterMark
  enabled : Nat
  gapMode : GapMode
  deriving DecidableEq, Repr

/-- R188: the nonvolatile Option Store: never written, failing its check, or holding five values that pass it. -/
inductive OptionStore where
  | unwritten
  | failing
  | holds (o : Options)
  deriving DecidableEq, Repr

/-- R181: a set Calendar. -/
structure Calendar where
  month : Nat
  year : Nat
  deriving DecidableEq, Repr

/-- R182: the Tallies, in the order of R199. -/
structure Tallies where
  received : Nat
  checkFailures : Nat
  overruns : Nat
  notTaken : Nat
  ignored : Nat
  clashes : Nat
  lateFindings : Nat
  pass : Nat
  condemn : Nat
  retest : Nat
  hold : Nat
  lost : Nat
  dropped : Nat
  noSpace : Nat
  deriving DecidableEq, Repr

/-- R187: a write to the Option Store in progress: the values, what its reply copies, and whether the reply is cancelled
(R190). -/
structure PendingWrite where
  options : Options
  dst : Byte
  tag : Byte
  cancelled : Bool
  deriving DecidableEq, Repr

/-- R175: the Management Responder. -/
inductive Responder where
  | idle
  | working (w : PendingWrite)
  | replyPending
  deriving DecidableEq, Repr

/-- Chapter 9: what the Management Responder holds; `storeSound` is the indication of R188 that the store passed its
check at the last power-on. -/
structure Management where
  store : OptionStore
  storeSound : Bool
  latched : Options
  calendar : Option Calendar
  tallies : Tallies
  notices : List Notice
  responder : Responder
  deriving DecidableEq, Repr

/-! ## The machine -/

/-- The whole part, and the queue of commands that wait. `cuts` and `pending` are the model's own: `cuts` counts the
Option Store writes that a power-on reset has cut short and picks the free value of R188 (log entry 4); `pending` is the
queue of commands, first in first out. -/
structure State where
  clock : Clock
  banks : TypeBanks
  records : RecordTable
  stations : Vector Station 8
  dispatch : DispatchUnit
  port : RingPort
  mgmt : Management
  roles : Vector Role 62
  cuts : Nat
  pending : List Instr
  deriving DecidableEq, Repr

/-! ## Reset values -/

/-- R1, R2: an invalid match entry, every field zero. -/
def MatchEntry.invalid : MatchEntry := ⟨false, 0, 0, 0, 0, 0⟩

/-- R1, R2: an invalid type entry, every field zero. -/
def TypeEntry.invalid : TypeEntry := ⟨false, 0, 0, 0, 0, 0, 0, 0, 0, 0, 0, 0, 0, 0, 0, 0, 0, 0, 0, 0⟩

/-- R2: a bank as power-on reset leaves it, but for its state. -/
def Bank.blank (st : BankState) : Bank :=
  ⟨st, 0, 0, Vector.replicate 64 MatchEntry.invalid, Vector.replicate 64 TypeEntry.invalid⟩

/-- R62, R84: a Station Table entry after power-on reset. The last frame time is 0 (log entry 7). -/
def Station.blank : Station :=
  ⟨⟨0, 0, 0, 0⟩, .outOfService, none, 0, none, none, [], none, 0, none, false, false, false, 0⟩

/-- R133: the Dispatch Unit after power-on reset; no address holds a role (R180), so none has been heard from. -/
def DispatchUnit.blank : DispatchUnit :=
  ⟨[], [], [], .idle, .idle, .idle, .gateClosed, false, false, false, false, false, false, false⟩

/-- R162, R173: the Ring Port after power-on reset. R173 does not name the OUT pair: a frame being sent at the reset is
broken off and the pair idle (log entry 29). -/
def RingPort.blank : RingPort :=
  ⟨[], [], Vector.replicate 13 ⟨.free, none⟩, [], 0, 0, .idle, .down, 0⟩

/-- R187: the factory values of the options: addresses 1 and 62, a mark of four spaces, 8 stations, LENIENT. -/
def Options.factory : Options := ⟨1, 62, ⟨0x20, 0x20, 0x20, 0x20⟩, 8, .lenient⟩

/-- R182: the Tallies after power-on reset. -/
def Tallies.zero : Tallies := ⟨0, 0, 0, 0, 0, 0, 0, 0, 0, 0, 0, 0, 0, 0⟩

/-- The part after a power-on reset that latched `latched` from `store`, the store having passed its check or not. Every
value is the manual's (R2, R21, R62, R67, R84, R133, R162, R173, R180, R181, R182, R188, R190) but for a station's last frame
time (log entry 7), the OUT pair (log entry 29) and the model's own queue and count of cuts (log entries 21 and 4). -/
def State.powerOn (store : OptionStore) (storeSound : Bool) (latched : Options) : State where
  clock := 0
  banks := ⟨Bank.blank .active, Bank.blank .standby⟩
  records := ⟨Vector.replicate 128 none, [], 0⟩
  stations := Vector.replicate 8 Station.blank
  dispatch := DispatchUnit.blank
  port := RingPort.blank
  mgmt := ⟨store, storeSound, latched, none, Tallies.zero, [], .idle⟩
  roles := Vector.replicate 62 .unassigned
  cuts := 0
  pending := []

/-- The part right after power-on reset with an Option Store that was never written (log entry 3): the factory values
are latched (R188), and no command waits. -/
def State.reset : State := State.powerOn .unwritten false Options.factory

/-! ## Why a step can stop -/

/-- The faults of the part. There is none: the manual gives every command an effect, an answer or an "ignored and counted"
in every state, so no meaning raises a fault and the type has no constructor (safe). -/
inductive Fault
  deriving DecidableEq, Repr

/-- The refusals of the model. -/
inductive Refusal where
  /-- Raised by an arm of `exec` alone, for a command that has no meaning yet (safe: the run stops). No arm raises it. -/
  | notModelled (mnemonic : String)
  deriving DecidableEq, Repr

end Sys2Proof.Machine
end

