-- ==== Sys2Proof/Machine/Operands.lean ====
section
/-!
DEFINITION. Reading and writing fields: numbers of several bytes, serials, frames with their check, and the payloads a
command carries (chapter 10).
-/

namespace Sys2Proof.Machine

/-! ## Numbers and bytes (R191) -/

/-- The byte at offset `i` of a field list, 0 beyond its end. -/
def byteAt (l : List Byte) (i : Nat) : Byte := l.getD i 0

/-- R191: the 2-byte number at offset `i`, most significant byte first. -/
def num16At (l : List Byte) (i : Nat) : Nat := (byteAt l i).toNat * 256 + (byteAt l (i + 1)).toNat

/-- R191: the 2-byte set or code at offset `i`. -/
def word16At (l : List Byte) (i : Nat) : Word16 := BitVec.ofNat 16 (num16At l i)

/-- A number as one byte. -/
def byteOf (n : Nat) : Byte := BitVec.ofNat 8 n

/-- R191: a number as `k` bytes, most significant byte first. -/
def beBytes : Nat → Nat → List Byte
  | 0, _ => []
  | k + 1, n => byteOf (n / 256 ^ k) :: beBytes k n

/-- R191: a signed number as 3 bytes of two's complement. -/
def signed24 (z : Int) : List Byte := beBytes 3 (BitVec.ofInt 24 z).toNat

/-- A Boolean as the byte 1 or 0. -/
def flagByte (b : Bool) : Byte := if b then 1 else 0

/-! ## Serials (R24, R191) -/

/-- R24, R191: the character codes of the serial set: "-", "/", 0 to 9, A to Z. -/
def serialChar (c : Byte) : Bool :=
  c == 0x2D || c == 0x2F || (0x30 ≤ c.toNat && c.toNat ≤ 0x39) || (0x41 ≤ c.toNat && c.toNat ≤ 0x5A)

/-- R187, R191: the character codes of a retester mark: A to Z, 0 to 9, space. -/
def markChar (c : Byte) : Bool :=
  c == 0x20 || (0x30 ≤ c.toNat && c.toNat ≤ 0x39) || (0x41 ≤ c.toNat && c.toNat ≤ 0x5A)

/-- R191: the characters that a serial field's length byte, cut to 16, names. -/
def serialCut (field : List Byte) : List Byte := (field.drop 1).take (min (byteAt field 0).toNat 16)

/-- R191: the serial that a 17-byte field holds, or none where it is malformed. -/
def serialOf (field : List Byte) : Option (List Byte) :=
  let n := (byteAt field 0).toNat
  if 1 ≤ n ∧ n ≤ 16 ∧ (serialCut field).all serialChar then some (serialCut field) else none

/-- R191: a serial as a 17-byte field, the bytes beyond its length 0x00. -/
def serialField (serial : List Byte) : List Byte :=
  byteOf serial.length :: (serial ++ List.replicate (16 - serial.length) 0)

/-- R69, R144, R191: the field a REJECT or a REFUSE carries for a received serial field: a well-formed serial is sent as
any serial; of a malformed one, the length byte cut to 16 and the 16 character bytes as received. -/
def echoField (field : List Byte) : List Byte :=
  match serialOf field with
  | some serial => serialField serial
  | none => byteOf (min (byteAt field 0).toNat 16) :: (field.drop 1).take 16

/-- R32, R48: a tare field outside 1..20000 is read as absent. -/
def tareOf (n : Nat) : Option Nat := if 1 ≤ n ∧ n ≤ 20000 then some n else none

/-! ## The frame and its check (R192, R193) -/

/-- R193: one bit of the remainder: the register shifted left, less the divisor x^16 + x^12 + x^5 + 1 where a one leaves
it. -/
def crcBit (r : Word16) : Word16 := if r.getLsbD 15 then (r <<< 1) ^^^ 0x1021 else r <<< 1

/-- R193: `k` bits of the remainder. -/
def crcBits : Nat → Word16 → Word16
  | 0, r => r
  | k + 1, r => crcBits k (crcBit r)

/-- R193: the remainder after one more byte, taken most significant bit first. -/
def crcByte (r : Word16) (b : Byte) : Word16 := crcBits 8 (r ^^^ (b.setWidth 16 <<< 8))

/-- R193: the 16-bit remainder over a list of bytes, the register starting at 0xFFFF. -/
def crc (bytes : List Byte) : Word16 := bytes.foldl crcByte 0xFFFF

/-- R193: a kind byte with bit 7, the taken mark, read as 0. -/
def unmarked (kind : Byte) : Byte := kind &&& 0x7F

/-- R193: the check of a frame's bytes: bytes 0 to the last payload byte, the taken mark read as 0. -/
def checkOf (dst src kind seq len : Byte) (payload : List Byte) : Word16 :=
  crc (dst :: src :: unmarked kind :: seq :: len :: payload)

/-- R192: byte 2 of a frame. -/
def kindByte (kind : BitVec 4) (spare : BitVec 3) (taken : Bool) : Byte := BitVec.ofBool taken ++ spare ++ kind

/-- R192: the kind of a frame, bits 0 to 3 of byte 2. -/
def Frame.kindOf (f : Frame) : BitVec 4 := f.kind.setWidth 4

/-- R192: the taken mark of a frame, bit 7 of byte 2. -/
def Frame.taken (f : Frame) : Bool := f.kind.getLsbD 7

/-- R193: a frame with its taken mark set, every other byte as it was. -/
def Frame.mark (f : Frame) : Frame := { f with kind := f.kind ||| 0x80 }

/-- R192, R193: a frame of these fields with the length and the check its bytes give. -/
def composeFrame (dst src kind seq : Byte) (payload : List Byte) : Frame where
  dst := dst
  src := src
  kind := kind
  seq := seq
  len := byteOf payload.length
  payload := payload
  check := checkOf dst src kind seq (byteOf payload.length) payload

/-- R159: a frame passes its check: the frame check agrees, the length field is at most 48 and agrees with the payload,
and the source is 1..62. -/
def Frame.passes (f : Frame) : Bool :=
  f.check == checkOf f.dst f.src f.kind f.seq f.len f.payload
    && f.len.toNat ≤ 48 && f.len.toNat == f.payload.length && 1 ≤ f.src.toNat && f.src.toNat ≤ 62

/-- R192: the frame that received bytes spell; none where they are fewer than the 7 of the shortest frame. -/
def parseFrame (bytes : List Byte) : Option Frame :=
  let n := bytes.length
  if n < 7 then none
  else some ⟨byteAt bytes 0, byteAt bytes 1, byteAt bytes 2, byteAt bytes 3, byteAt bytes 4,
    (bytes.drop 5).take (n - 7), word16At bytes (n - 2)⟩

/-- The kinds of R193 that the part uses. -/
def Kind.tag : BitVec 4 := 1
/-- R193: FINDING. -/
def Kind.finding : BitVec 4 := 2
/-- R193: SAMPLE. -/
def Kind.sample : BitVec 4 := 3
/-- R193: STATION EVENT. -/
def Kind.stationEvent : BitVec 4 := 4
/-- R193: DONE. -/
def Kind.done : BitVec 4 := 5
/-- R193: ORDER. -/
def Kind.order : BitVec 4 := 8
/-- R193: REQUEST. -/
def Kind.request : BitVec 4 := 9
/-- R193: REPLY. -/
def Kind.reply : BitVec 4 := 10
/-- R193: NOTICE. -/
def Kind.notice : BitVec 4 := 11

/-- The frame of a command that is addressed to the part: its destination is the part's own latched address. -/
def frameTo (s : State) (h : Hdr) (kind : BitVec 4) (payload : List Byte) : Frame :=
  composeFrame s.mgmt.latched.own h.src (kindByte kind h.spare h.taken) h.seq payload

/-! ## Payloads from the line (R194) -/

/-- R194: the fields of a TAG that the part reads; `field` is the 17 bytes of its serial. -/
structure TagFields where
  field : List Byte
  maker : Word16
  model : Word16
  year : Nat
  tare : Option Nat
  deriving DecidableEq, Repr

/-- R194: a TAG payload of the required 25 bytes. -/
def tagFields (p : List Byte) : Option TagFields :=
  if p.length = 25 then some ⟨p.take 17, word16At p 17, word16At p 19, num16At p 21, tareOf (num16At p 23)⟩ else none

/-- R194: the fields of a FINDING. -/
structure FindingFields where
  field : List Byte
  items : BitVec 8
  sets : Word16
  clears : Word16
  tare : Option Nat
  deriving DecidableEq, Repr

/-- R194: a FINDING payload of the required 24 bytes. -/
def findingFields (p : List Byte) : Option FindingFields :=
  if p.length = 24 then some ⟨p.take 17, byteAt p 17, word16At p 18, word16At p 20, tareOf (num16At p 22)⟩ else none

/-- R194: the fields of a SAMPLE, as they were sent. -/
structure SampleFields where
  seq : Byte
  pressure : Nat
  level : Nat
  temp : Nat
  deriving DecidableEq, Repr

/-- R194: a SAMPLE payload of the required 7 bytes. -/
def sampleFields (p : List Byte) : Option SampleFields :=
  if p.length = 7 then some ⟨byteAt p 0, num16At p 1, num16At p 3, num16At p 5⟩ else none

/-- R194: a DONE payload of the required 18 bytes: its serial field and its result byte. -/
def doneFields (p : List Byte) : Option (List Byte × Byte) :=
  if p.length = 18 then some (p.take 17, byteAt p 17) else none

/-- R194: a station event: its code's meaning with its argument. -/
inductive StationEvent where
  | seated (field : List Byte)
  | sealFault
  | reached (k : Nat)
  | vented
  | released
  | burst
  deriving DecidableEq, Repr

/-- R78, R194: the event a STATION EVENT payload names; none for an unknown code or a length its event does not have. -/
def stationEvent (p : List Byte) : Option StationEvent :=
  match (byteAt p 0).toNat, p.length with
  | 1, 18 => some (.seated (p.drop 1))
  | 2, 1 => some .sealFault
  | 3, 2 => some (.reached (byteAt p 1).toNat)
  | 4, 1 => some .vented
  | 5, 1 => some .released
  | 6, 1 => some .burst
  | _, _ => none

/-! ## Arguments of requests (R187, R196, R197) -/

/-- R196: a bank code. -/
def bankOf (b : Byte) : Option BankId :=
  if b = 1 then some .a else if b = 2 then some .b else none

/-- A byte as an index below `n`. -/
def indexOf (n : Nat) (b : Byte) : Option (Fin n) := if h : b.toNat < n then some ⟨b.toNat, h⟩ else none

/-- R196: a role code. -/
def roleOfCode (b : Byte) : Option Role :=
  match b.toNat with
  | 0 => some .unassigned
  | 1 => some .intakeReader
  | 2 => some .inspection
  | 3 => some .markingPress
  | 4 => some .scrapCell
  | 5 => some .diverter
  | _ => none

/-- R180: a unit address 1..62 as an index of the Unit Role Table. -/
def unitIndex (b : Byte) : Option (Fin 62) :=
  if h : 1 ≤ b.toNat ∧ b.toNat ≤ 62 then some ⟨b.toNat - 1, by omega⟩ else none

/-- R197: a valid mark: 1 is set, 0 is clear; what another byte reads as the manual leaves open (log entry 5). -/
def validMark (b : Byte) : Bool :=
  if b = 1 then true else if b = 0 then false else Sys2Proof.Config.oddValidMarkIsSet b

/-- R197: the fields of a type entry as the 27 bytes at offset `i` offer them. -/
def typeEntryAt (l : List Byte) (i : Nat) : TypeEntry where
  valid := validMark (byteAt l i)
  pt := num16At l (i + 1)
  band := num16At l (i + 3)
  ree := num16At l (i + 5)
  permLimit := (byteAt l (i + 7)).toNat
  steps := (byteAt l (i + 8)).toNat
  stepTimeout := (byteAt l (i + 9)).toNat
  zeroTimeout := (byteAt l (i + 10)).toNat
  holdTime := num16At l (i + 11)
  stabBand := (byteAt l (i + 13)).toNat
  window := (byteAt l (i + 14)).toNat
  maxExtension := (byteAt l (i + 15)).toNat
  ventTimeout := (byteAt l (i + 16)).toNat
  settleTime := num16At l (i + 17)
  retestLimit := (byteAt l (i + 19)).toNat
  tareLossLimit := (byteAt l (i + 20)).toNat
  serviceLife := (byteAt l (i + 21)).toNat
  required := byteAt l (i + 22)
  condemnMask := word16At l (i + 23)
  holdMask := word16At l (i + 25)

/-- R197: the options that the 8 bytes of `l` offer; none where a value lies outside its range or the two addresses are
equal (R187). -/
def optionsOf (l : List Byte) : Option Options :=
  let own := byteAt l 0
  let sup := byteAt l 1
  let enabled := (byteAt l 6).toNat
  let gap := byteAt l 7
  if 1 ≤ own.toNat ∧ own.toNat ≤ 62 ∧ 1 ≤ sup.toNat ∧ sup.toNat ≤ 62 ∧ own ≠ sup
      ∧ markChar (byteAt l 2) ∧ markChar (byteAt l 3) ∧ markChar (byteAt l 4) ∧ markChar (byteAt l 5)
      ∧ 1 ≤ enabled ∧ enabled ≤ 8 ∧ (gap = 0 ∨ gap = 1) then
    some ⟨own, sup, ⟨byteAt l 2, byteAt l 3, byteAt l 4, byteAt l 5⟩, enabled, if gap = 1 then .strict else .lenient⟩
  else none

end Sys2Proof.Machine
end

