-- ==== Sys2Proof/Machine/Flags.lean ====
section
/-!
DEFINITION. The code values of R196, the Tallies, the presence and clamp bits, and the layouts the part sends: orders,
notices, replies and the parts of a record (R195 to R199).
-/

namespace Sys2Proof.Machine

/-! ## Code values (R196) -/

/-- R196: record states. -/
def RecState.code : RecState → Byte
  | .identified => 1 | .inspected => 2 | .onTest => 3 | .retestWait => 4 | .markPending => 5 | .atPress => 6
  | .scrapPending => 7 | .atScrapCell => 8 | .hold => 9 | .marked => 10 | .scrapped => 11 | .lost => 12

/-- R196, R198: the seated-from state. -/
def SeatedFrom.recState : SeatedFrom → RecState
  | .inspected => .inspected
  | .retestWait => .retestWait

/-- R196: station states. -/
def StState.code : StState → Byte
  | .outOfService => 1 | .vacant => 2 | .seated => 3 | .ramping => 4 | .holding => 5 | .venting => 6 | .settling => 7
  | .releasing => 8 | .faulted => 9 | .resync => 10

/-- R196: reasons. -/
def Reason.code : Reason → Byte
  | .finding => 1 | .weightLoss => 2 | .life => 3 | .burst => 4 | .overpressure => 5 | .elastic => 6 | .permanent => 7
  | .seal => 8 | .sensor => 9 | .zeroUnstable => 10 | .stepTimeout => 11 | .pressureLost => 12 | .unstable => 13
  | .sampleGaps => 14 | .ventTimeout => 15 | .superseded => 16 | .silent => 17 | .ringLoss => 18 | .aborted => 19
  | .noExpansion => 20 | .unknownType => 21 | .tagDate => 22 | .noTare => 23

/-- R196: verdict kinds. -/
def Verdict.kindCode : Verdict → Byte
  | .pass => 1 | .condemn _ => 2 | .retest _ => 3 | .hold _ => 4

/-- R123: a verdict's reason; a PASS has none. -/
def Verdict.reason : Verdict → Option Reason
  | .pass => none
  | .condemn r => some r
  | .retest r => some r
  | .hold r => some r

/-- R196: an optional reason, 0 none. -/
def reasonCode : Option Reason → Byte
  | none => 0
  | some r => r.code

/-- R196: the two bytes, kind and reason, of an optional verdict; 0 absent. -/
def verdictBytes : Option Verdict → List Byte
  | none => [0, 0]
  | some v => [v.kindCode, reasonCode v.reason]

/-- R196: hold reasons. -/
def HoldReason.code : HoldReason → Byte
  | .unknownType => 1 | .tagDate => 2 | .finding => 3 | .noTare => 4 | .retestsExhausted => 5 | .listFull => 6
  | .pressOffline => 7 | .scrapOffline => 8 | .routeUnconfirmed => 9 | .misroute => 10 | .stampFault => 11
  | .stampUnconfirmed => 12 | .condemnFault => 13 | .condemnUnconfirmed => 14

/-- R196: an optional hold reason, 0 absent. -/
def holdCode : Option HoldReason → Byte
  | none => 0
  | some r => r.code

/-- R28: the hold reason that stands with a HOLD verdict of a given reason. -/
def Reason.holdReason : Reason → HoldReason
  | .unknownType => .unknownType
  | .tagDate => .tagDate
  | .noTare => .noTare
  | _ => .finding

/-- R196: weight checks. -/
def WeightCheck.code : WeightCheck → Byte
  | .notDone => 0 | .ok => 1 | .loss => 2 | .noTagTare => 3

/-- R196: roles. -/
def Role.code : Role → Byte
  | .unassigned => 0 | .intakeReader => 1 | .inspection => 2 | .markingPress => 3 | .scrapCell => 4 | .diverter => 5

/-- R196: banks. -/
def BankId.code : BankId → Byte
  | .a => 1 | .b => 2

/-- R196: bank states. -/
def BankState.code : BankState → Byte
  | .active => 1 | .standby => 2 | .retiring => 3

/-- R196: statuses. -/
def Status.code : Status → Byte
  | .done => 0 | .busy => 1 | .badIndex => 2 | .badValue => 3 | .notReady => 4 | .absent => 5 | .wrongBank => 6
  | .emptyBank => 7 | .notPermitted => 8 | .unknownRequest => 9

/-- R196: the gate. -/
def Gate.code : Gate → Byte
  | .gateClosed => 0 | .gateOpen => 1

/-- R196: gap modes. -/
def GapMode.code : GapMode → Byte
  | .lenient => 0 | .strict => 1

/-- R195: lanes. -/
def Lane.code : Lane → Byte
  | .test => 1 | .mark => 2 | .scrap => 3 | .hold => 4

/-- R195: the list of a LOST NOTICE. -/
def ListId.code : ListId → Byte
  | .mark => 1 | .scrap => 2

/-- R196: clamp flags, bit 0 NEGATIVE PERMANENT and bit 1 PERMANENT EXCEEDS TOTAL. -/
def ClampFlags.code (f : ClampFlags) : Byte := flagByte f.negative + 2 * flagByte f.exceeds

/-! ## Tallies (R182, R183, R199) -/

/-- R182: the names of the fourteen tallies. -/
inductive Tally where
  | received | checkFailures | overruns | notTaken | ignored | clashes | lateFindings
  | pass | condemn | retest | hold | lost | dropped | noSpace
  deriving DecidableEq, Repr

/-- R182: a 32-bit count raised by `k`, stopping at 4,294,967,295. -/
def satAdd (n k : Nat) : Nat := min (n + k) 4294967295

/-- R182: the named tally raised by `k`. -/
def Tallies.add (t : Tallies) (k : Nat) : Tally → Tallies
  | .received => { t with received := satAdd t.received k }
  | .checkFailures => { t with checkFailures := satAdd t.checkFailures k }
  | .overruns => { t with overruns := satAdd t.overruns k }
  | .notTaken => { t with notTaken := satAdd t.notTaken k }
  | .ignored => { t with ignored := satAdd t.ignored k }
  | .clashes => { t with clashes := satAdd t.clashes k }
  | .lateFindings => { t with lateFindings := satAdd t.lateFindings k }
  | .pass => { t with pass := satAdd t.pass k }
  | .condemn => { t with condemn := satAdd t.condemn k }
  | .retest => { t with retest := satAdd t.retest k }
  | .hold => { t with hold := satAdd t.hold k }
  | .lost => { t with lost := satAdd t.lost k }
  | .dropped => { t with dropped := satAdd t.dropped k }
  | .noSpace => { t with noSpace := satAdd t.noSpace k }

/-- R130: the verdict tally of a verdict's kind. -/
def Verdict.tally : Verdict → Tally
  | .pass => .pass
  | .condemn _ => .condemn
  | .retest _ => .retest
  | .hold _ => .hold

/-- R199: the seven tallies of group 1, in reply order. -/
def Tallies.group1 (t : Tallies) : List Nat :=
  [t.received, t.checkFailures, t.overruns, t.notTaken, t.ignored, t.clashes, t.lateFindings]

/-- R199: the seven tallies of group 2, in reply order. -/
def Tallies.group2 (t : Tallies) : List Nat := [t.pass, t.condemn, t.retest, t.hold, t.lost, t.dropped, t.noSpace]

/-- R199: seven tallies of 4 bytes each. -/
def tallyBytes (l : List Nat) : List Byte := l.flatMap (beBytes 4)

/-- R183: the tallies of group 1 at 0, the others as they stand. -/
def Tallies.clear1 (t : Tallies) : Tallies :=
  { t with received := 0, checkFailures := 0, overruns := 0, notTaken := 0, ignored := 0, clashes := 0, lateFindings := 0 }

/-- R183: the tallies of group 2 at 0, the others as they stand. -/
def Tallies.clear2 (t : Tallies) : Tallies :=
  { t with pass := 0, condemn := 0, retest := 0, hold := 0, lost := 0, dropped := 0, noSpace := 0 }

/-! ## Orders, notices and replies (R195, R197) -/

/-- R195: the payload of an order. -/
def Order.payload : Order → List Byte
  | .start sr => 1 :: serialField sr
  | .step k t => 2 :: byteOf k :: beBytes 2 t
  | .vent => [3]
  | .release => [4]
  | .abort => [5]
  | .reject f => 6 :: f
  | .stamp sr m month yy => 7 :: (serialField sr ++ [m.c0, m.c1, m.c2, m.c3, byteOf month, byteOf yy])
  | .refuse f => 8 :: f
  | .condemn sr r => 9 :: (serialField sr ++ [r.code])
  | .route sr lane => 10 :: (serialField sr ++ [lane.code])

/-- The bytes of an optional pressure range, zero where absent. -/
def pressureBytes : Option PressureRange → List Byte
  | none => [0, 0, 0, 0]
  | some p => beBytes 2 p.pmin ++ beBytes 2 p.pmax

/-- The bytes of an optional reading, zero where absent. -/
def readingBytes : Option Reading → List Byte
  | none => [0, 0, 0, 0]
  | some r => beBytes 2 r.level ++ beBytes 2 r.temp

/-- The permanent figures of an optional expansion. -/
def permOf (e : Option Expansion) : Option Permanent := e.bind (·.perm)

/-- R195: bytes 24 to 40 of a VERDICT NOTICE: the presence bits and the test figures, a member not present sent as
zero. -/
def figureBytes : Option TestResult → List Byte
  | none => List.replicate 17 0
  | some t =>
    [1 + 2 * flagByte t.pressures.isSome + 4 * flagByte t.expansion.isSome + 8 * flagByte (permOf t.expansion).isSome,
      byteOf t.station, byteOf t.attempt, t.gen] ++ pressureBytes t.pressures
      ++ (match t.expansion with
          | none => [0, 0, 0, 0]
          | some e => signed24 e.et ++ [e.flags.code])
      ++ (match permOf t.expansion with
          | none => [0, 0, 0, 0, 0]
          | some p => beBytes 3 p.ep ++ beBytes 2 p.ratio)

/-- R195: the payload of a notice. -/
def Notice.payload : Notice → List Byte
  | .verdict n sr v entered hold retests figures =>
    1 :: byteOf n :: (serialField sr ++ verdictBytes (some v) ++ [entered.code, holdCode hold, byteOf retests]
      ++ figureBytes figures)
  | .lost n sr v list => 2 :: byteOf n :: (serialField sr ++ verdictBytes v ++ [list.code])

/-- R197: the payload of a reply: tag, code, status and, with DONE alone, the results. -/
def Reply.payload (r : Reply) : List Byte :=
  r.tag :: r.code :: r.status.code :: (if r.status = .done then r.results else [])

/-- R193: the kind of an own frame. -/
def Body.kind : Body → BitVec 4
  | .order _ => Kind.order
  | .reply _ => Kind.reply
  | .notice _ => Kind.notice

/-- R195, R197: the payload of an own frame. -/
def Body.payload : Body → List Byte
  | .order o => o.payload
  | .reply r => r.payload
  | .notice n => n.payload

/-- R164, R193: an own frame as it is sent: source the latched own address, taken mark clear, spare bits 0. -/
def OwnFrame.wire (q : OwnFrame) (own seq : Byte) : Frame :=
  composeFrame q.dst own (kindByte q.body.kind 0 false) seq q.body.payload

/-! ## Table entries and records as they are read (R197, R198) -/

/-- R197: a type entry as 27 bytes. -/
def TypeEntry.bytes (e : TypeEntry) : List Byte :=
  flagByte e.valid :: (beBytes 2 e.pt ++ beBytes 2 e.band ++ beBytes 2 e.ree
    ++ [byteOf e.permLimit, byteOf e.steps, byteOf e.stepTimeout, byteOf e.zeroTimeout] ++ beBytes 2 e.holdTime
    ++ [byteOf e.stabBand, byteOf e.window, byteOf e.maxExtension, byteOf e.ventTimeout] ++ beBytes 2 e.settleTime
    ++ [byteOf e.retestLimit, byteOf e.tareLossLimit, byteOf e.serviceLife, e.required]
    ++ beBytes 2 e.condemnMask.toNat ++ beBytes 2 e.holdMask.toNat)

/-- R197: a match entry as 10 bytes. -/
def MatchEntry.bytes (m : MatchEntry) : List Byte :=
  flagByte m.valid :: (beBytes 2 m.makerKey.toNat ++ beBytes 2 m.makerMask.toNat ++ beBytes 2 m.modelKey.toNat
    ++ beBytes 2 m.modelMask.toNat ++ [byteOf m.code])

/-- R197: a station configuration as 6 bytes. -/
def StationConfig.bytes (c : StationConfig) : List Byte :=
  c.addr :: (beBytes 2 c.k ++ beBytes 2 c.period ++ [byteOf c.silence])

/-- R197: options as 8 bytes. -/
def Options.bytes (o : Options) : List Byte :=
  [o.own, o.supervisor, o.mark.c0, o.mark.c1, o.mark.c2, o.mark.c3, byteOf o.enabled, o.gapMode.code]

/-- R67: a deadline is reached when the clock less it, modulo 2^32, is below 2^31. -/
def reached (clock deadline : Clock) : Bool := (clock - deadline).toNat < 2147483648

/-- R63, R197: the time remaining to a phase deadline in ms: 0xFFFFFFFF when none is armed, and 0 for one already reached
(log entry 17). -/
def timeToDeadline (clock : Clock) : Option Clock → Nat
  | none => 4294967295
  | some d => if reached clock d then 0 else (d - clock).toNat

/-- R63, R197: a station entry as 36 bytes; `serial` is that of the record of the test in progress, where there is one. -/
def Station.bytes (st : Station) (clock : Clock) (serial : Option (List Byte)) : List Byte :=
  st.cfg.bytes ++ [st.state.code, (match st.record with | none => 0xFF | some n => byteOf n)]
    ++ serialField (serial.getD [])
    ++ [byteOf st.step, flagByte st.sealPending + 2 * flagByte st.aborted + 4 * flagByte st.leaving
          + 8 * flagByte st.pressures.isSome, byteOf st.gaps]
    ++ beBytes 4 (timeToDeadline clock st.deadline) ++ pressureBytes st.pressures

/-- R198: part 1 of a record; `station` is the station that holds it ON TEST. The generation of an absent bank is sent as 0
(log entry 17). -/
def Record.part1 (n : RecNo) (station : Option StationNo) (r : Record) : List Byte :=
  byteOf n :: (beBytes 4 r.openSeq.toNat ++ serialField r.serial
    ++ [r.state.code, (match r.seatedFrom with | none => 0 | some f => f.recState.code),
        (match station with | none => 0xFF | some i => byteOf i)]
    ++ beBytes 2 r.maker.toNat ++ beBytes 2 r.model.toNat ++ beBytes 2 r.year ++ beBytes 2 (r.tagTare.getD 0)
    ++ [(match r.typeCode with | none => 0xFF | some c => byteOf c)]
    ++ (match r.bank with | none => [0, 0] | some b => [b.bank.code, b.gen])
    ++ [byteOf r.attempts, byteOf r.retestsLeft, reasonCode r.lastAbort] ++ verdictBytes r.verdict
    ++ [holdCode r.holdReason, byteOf r.passedBy, byteOf r.clash])

/-- R198: bytes 11 to 43 of part 2, the test result, a member not present sent as zero. -/
def resultBytes : Option TestResult → List Byte
  | none => List.replicate 33 0
  | some t =>
    [1 + 2 * flagByte t.pressures.isSome + 4 * flagByte t.total.isSome + 8 * flagByte t.settled.isSome
        + 16 * flagByte t.expansion.isSome + 32 * flagByte (permOf t.expansion).isSome,
      byteOf t.station, byteOf t.attempt, t.gen]
      ++ readingBytes (some t.zero) ++ readingBytes t.total ++ readingBytes t.settled ++ pressureBytes t.pressures
      ++ [byteOf t.gaps]
      ++ (match t.expansion with | none => [0, 0, 0] | some e => signed24 e.et)
      ++ (match permOf t.expansion with
          | none => [0, 0, 0, 0, 0, 0, 0, 0]
          | some p => beBytes 3 p.ep ++ beBytes 3 p.elastic ++ beBytes 2 p.ratio)
      ++ [(match t.expansion with | none => 0 | some e => e.flags.code)]

/-- R198: part 2 of a record. -/
def Record.part2 (n : RecNo) (r : Record) : List Byte :=
  byteOf n :: (beBytes 4 r.openSeq.toNat ++ [r.items] ++ beBytes 2 r.findings.toNat
    ++ beBytes 2 (r.measuredTare.getD 0) ++ [r.weight.code] ++ resultBytes r.result)

end Sys2Proof.Machine
end

