-- ==== Sys2Proof/Machine/Ops.lean ====
section
/-!
DEFINITION. The named operations over the state that the commands share: reading and writing each block's tables, offers to
the Ring Port, bank references, the Dispatch Unit's lists and Route FIFO, notices, and applying a verdict.
-/

namespace Sys2Proof.Machine

/-! ## One block at a time -/

def State.updBanks (s : State) (f : TypeBanks → TypeBanks) : State := { s with banks := f s.banks }
def State.updRecords (s : State) (f : RecordTable → RecordTable) : State := { s with records := f s.records }
def State.updDispatch (s : State) (f : DispatchUnit → DispatchUnit) : State := { s with dispatch := f s.dispatch }
def State.updPort (s : State) (f : RingPort → RingPort) : State := { s with port := f s.port }
def State.updMgmt (s : State) (f : Management → Management) : State := { s with mgmt := f s.mgmt }

/-- R182: a tally raised by `k`. -/
def State.tallyBy (t : Tally) (k : Nat) (s : State) : State :=
  s.updMgmt fun m => { m with tallies := m.tallies.add k t }

/-- R182: a tally raised by one. -/
def State.tally (t : Tally) (s : State) : State := s.tallyBy t 1

/-! ## The Line Clock (R67) -/

/-- R67: a deadline of `secs` seconds armed at clock value `c`. -/
def afterSecs (c : Clock) (secs : Nat) : Clock := c + BitVec.ofNat 32 (secs * 1000)

/-- A deadline of `ms` milliseconds armed at clock value `c`. -/
def afterMs (c : Clock) (ms : Nat) : Clock := c + BitVec.ofNat 32 ms

/-- R67: an armed deadline is reached; an absent one is not. -/
def expired (c : Clock) (d : Option Clock) : Bool := d.any (reached c)

/-! ## The Unit Role Table (R180) -/

/-- R161, R180: the role of a source address; an address outside 1..62 holds none. -/
def State.roleOf (s : State) (addr : Byte) : Role :=
  match unitIndex addr with
  | some i => s.roles[i]
  | none => .unassigned

/-- R134: the address holding a role, the lowest where several do (log entry 16). -/
def State.addrOf (s : State) (r : Role) : Option Byte :=
  ((List.finRange 62).find? fun i => s.roles[i] == r).map fun i => byteOf (i.val + 1)

/-! ## The Type Bank Unit (chapter 1) -/

def TypeBanks.get (t : TypeBanks) : BankId → Bank
  | .a => t.a
  | .b => t.b

def TypeBanks.set (t : TypeBanks) (k : BankId) (x : Bank) : TypeBanks :=
  match k with
  | .a => { t with a := x }
  | .b => { t with b := x }

def BankId.other : BankId → BankId
  | .a => .b
  | .b => .a

/-- R11: the name of the ACTIVE bank. -/
def TypeBanks.activeId (t : TypeBanks) : BankId := if t.a.state = .active then .a else .b

/-- R14, R18: one reference released: the count lowered, and a RETIRING bank whose count reaches 0 made STANDBY. -/
def Bank.release (b : Bank) : Bank :=
  { b with refs := b.refs - 1, state := if b.state = .retiring ∧ b.refs - 1 = 0 then .standby else b.state }

/-- R14: one reference taken. -/
def Bank.take (b : Bank) : Bank := { b with refs := b.refs + 1 }

/-- R3: a tag's codes match an entry in the masked positions. -/
def MatchEntry.hits (m : MatchEntry) (maker model : Word16) : Bool :=
  maker &&& m.makerMask == m.makerKey &&& m.makerMask && model &&& m.modelMask == m.modelKey &&& m.modelMask

/-- R4: the first valid entry that a tag matches, in index order. -/
def Bank.firstMatch (b : Bank) (maker model : Word16) : Option (Fin 64) :=
  (List.finRange 64).find? fun i => b.matchTable[i].valid && b.matchTable[i].hits maker model

/-- R4: type resolution in a bank: none is UNKNOWN TYPE. -/
def Bank.resolve (b : Bank) (maker model : Word16) : Option TypeCode :=
  match b.firstMatch maker model with
  | some i => if b.typeTable[b.matchTable[i].code].valid then some b.matchTable[i].code else none
  | none => none

/-! ## The Record Table (chapter 2) -/

def State.getRec (s : State) (n : RecNo) : Option Record := s.records.table[n]

def State.putRec (n : RecNo) (r : Option Record) (s : State) : State :=
  s.updRecords fun t => { t with table := t.table.set n.val r n.isLt }

/-- A record changed in place; a free number stays free. -/
def State.modRec (n : RecNo) (f : Record → Record) (s : State) : State :=
  match s.getRec n with
  | some r => s.putRec n (some (f r))
  | none => s

/-- R24: the number of the record holding a serial. -/
def State.findSerial (s : State) (serial : List Byte) : Option RecNo :=
  (List.finRange 128).find? fun n => (s.getRec n).any fun r => r.serial == serial

/-- R25: the states in which a record references a bank. -/
def RecState.references : RecState → Bool
  | .identified => true
  | .inspected => true
  | .onTest => true
  | .retestWait => true
  | _ => false

/-- R25: the closed states. -/
def RecState.isClosed : RecState → Bool
  | .marked => true
  | .scrapped => true
  | .lost => true
  | _ => false

/-- R15: the type entry a record is judged by: the entry at its type code in the bank it names. A record without a type
or a bank (never asked in a run) reads the invalid entry (log entry 16). -/
def State.typeEntry (s : State) (r : Record) : TypeEntry :=
  match r.bank, r.typeCode with
  | some b, some c => (s.banks.get b.bank).typeTable[c]
  | _, _ => TypeEntry.invalid

/-- R14, R128: a record's reference released: the bank's count lowered and the record's bank absent. -/
def State.releaseRef (n : RecNo) (s : State) : State :=
  match (s.getRec n).bind (·.bank) with
  | some b => (s.updBanks fun t => t.set b.bank (t.get b.bank).release).modRec n fun r => { r with bank := none }
  | none => s

/-- R28: a record put in HOLD with a hold reason. -/
def State.holdRec (n : RecNo) (why : HoldReason) (s : State) : State :=
  s.modRec n fun r => { r with state := .hold, holdReason := some why }

/-- R29: a record closed in the given state, its number appended to the Closed List. -/
def State.closeRec (n : RecNo) (st : RecState) (s : State) : State :=
  (s.modRec n fun r => { r with state := st }).updRecords fun t => { t with closed := t.closed ++ [n] }

/-! ## The Ring Port: sources, offers (R162, R163) -/

/-- The place of a source among the thirteen, in the order of R174. -/
def Src.idx : Src → Fin 13
  | .station i => i.castLE (by decide)
  | .mark => 8
  | .scrap => 9
  | .route => 10
  | .reply => 11
  | .notice => 12

def RingPort.source (p : RingPort) (k : Src) : SourceState := p.sources[k.idx]

def RingPort.setSource (p : RingPort) (k : Src) (x : SourceState) : RingPort :=
  { p with sources := p.sources.set k.idx.val x k.idx.isLt }

/-- R163: a source offers a frame: from a free source it joins the Inject Queue; from a busy one it takes the next-frame
slot, a frame already there discarded, or is discarded while the ring is DOWN. -/
def RingPort.offer (q : OwnFrame) (p : RingPort) : RingPort :=
  match (p.source q.src).cond with
  | .free => { p.setSource q.src { p.source q.src with cond := .queued } with queue := p.queue ++ [q] }
  | _ =>
    match p.monitor with
    | .up => p.setSource q.src { p.source q.src with slot := some q }
    | .down => p

def State.offer (k : Src) (dst : Byte) (b : Body) (s : State) : State := s.updPort (·.offer ⟨k, dst, b, false⟩)

/-- R77, R155: the frame waiting in a source's next-frame slot discarded. -/
def RingPort.emptySlot (k : Src) (p : RingPort) : RingPort := p.setSource k { p.source k with slot := none }

/-! ## The Dispatch Unit: actuators, lists, the Route FIFO -/

/-- R134: the two actuators. -/
inductive Actuator where
  | press | scrapCell
  deriving DecidableEq, Repr

def Actuator.role : Actuator → Role
  | .press => .markingPress
  | .scrapCell => .scrapCell

def Actuator.src : Actuator → Src
  | .press => .mark
  | .scrapCell => .scrap

def Actuator.lane : Actuator → Lane
  | .press => .mark
  | .scrapCell => .scrap

def Actuator.listId : Actuator → ListId
  | .press => .mark
  | .scrapCell => .scrap

def Actuator.other : Actuator → Actuator
  | .press => .scrapCell
  | .scrapCell => .press

/-- R135: the state of a record on the actuator's list. -/
def Actuator.pendingState : Actuator → RecState
  | .press => .markPending
  | .scrapCell => .scrapPending

/-- R145, R152: the state of a record matched at the actuator. -/
def Actuator.atState : Actuator → RecState
  | .press => .atPress
  | .scrapCell => .atScrapCell

/-- R150, R152: the state a DONE OK closes a record in. -/
def Actuator.doneState : Actuator → RecState
  | .press => .marked
  | .scrapCell => .scrapped

def Actuator.offlineReason : Actuator → HoldReason
  | .press => .pressOffline
  | .scrapCell => .scrapOffline

def Actuator.faultReason : Actuator → HoldReason
  | .press => .stampFault
  | .scrapCell => .condemnFault

def Actuator.unconfirmedReason : Actuator → HoldReason
  | .press => .stampUnconfirmed
  | .scrapCell => .condemnUnconfirmed

/-- R145, R152: the stamp deadline of 30 s and the condemn deadline of 60 s. -/
def Actuator.deadlineSecs : Actuator → Nat
  | .press => 30
  | .scrapCell => 60

def DispatchUnit.list (d : DispatchUnit) : Actuator → List RecNo
  | .press => d.markList
  | .scrapCell => d.scrapList

def DispatchUnit.setList (d : DispatchUnit) (a : Actuator) (l : List RecNo) : DispatchUnit :=
  match a with
  | .press => { d with markList := l }
  | .scrapCell => { d with scrapList := l }

def DispatchUnit.disp (d : DispatchUnit) : Actuator → ActDispatcher
  | .press => d.markD
  | .scrapCell => d.scrapD

def DispatchUnit.setDisp (d : DispatchUnit) (a : Actuator) (x : ActDispatcher) : DispatchUnit :=
  match a with
  | .press => { d with markD := x }
  | .scrapCell => { d with scrapD := x }

def DispatchUnit.offline (d : DispatchUnit) : Actuator → Bool
  | .press => d.pressOffline
  | .scrapCell => d.scrapOffline

def DispatchUnit.setOffline (d : DispatchUnit) (a : Actuator) (x : Bool) : DispatchUnit :=
  match a with
  | .press => { d with pressOffline := x }
  | .scrapCell => { d with scrapOffline := x }

def DispatchUnit.stale (d : DispatchUnit) : Actuator → Bool
  | .press => d.markStale
  | .scrapCell => d.scrapStale

def DispatchUnit.setStale (d : DispatchUnit) (a : Actuator) (x : Bool) : DispatchUnit :=
  match a with
  | .press => { d with markStale := x }
  | .scrapCell => { d with scrapStale := x }

/-- R134: an actuator is online when some address holds its role and its offline flag is clear. -/
def State.online (s : State) (a : Actuator) : Bool := (s.addrOf a.role).isSome && !s.dispatch.offline a

/-- R134: the same of the diverter. -/
def State.diverterOnline (s : State) : Bool := (s.addrOf .diverter).isSome && !s.dispatch.diverterOffline

/-- R138, R140: the Route Dispatcher may send to the diverter: it is online, and a frame has arrived from it since a write
gave its address the role (log entry 12). -/
def State.diverterReady (s : State) : Bool := s.diverterOnline && s.dispatch.diverterHeard

/-- R137: a route entry placed at the end of the Route FIFO, or not placed where the FIFO holds 4. -/
def State.placeRoute (e : RouteEntry) (s : State) : State :=
  s.updDispatch fun d => if d.routes.length < 4 then { d with routes := d.routes ++ [e] } else d

/-- R137: a route entry placed for a record. -/
def State.routeRec (n : RecNo) (lane : Lane) (s : State) : State :=
  match s.getRec n with
  | some r => s.placeRoute ⟨r.serial, lane, some (n, r.openSeq)⟩
  | none => s

/-- R138, R140: the Route Dispatcher in IDLE sends the head entry when the diverter is online and heard from, and the ring
is UP. -/
def State.pumpRoute (s : State) : State :=
  match s.dispatch.routeD, s.dispatch.routes, s.addrOf .diverter with
  | .idle, e :: _, some addr =>
    if s.diverterReady ∧ s.port.monitor = .up then
      (s.offer .route addr (.order (.route e.serial e.lane))).updDispatch fun d => { d with routeD := .sending }
    else s
  | _, _, _ => s

/-! ## Notices (R184, R185) -/

/-- R184: a notice offered to the Notice FIFO: it joins, or it is dropped and counted where the ring is DOWN or the FIFO
holds 8. -/
def State.offerNotice (x : Notice) (s : State) : State :=
  if s.port.monitor = .up ∧ s.mgmt.notices.length < 8 then s.updMgmt fun m => { m with notices := m.notices ++ [x] }
  else s.tally .dropped

/-- R185: the notice source, when free, offers the head notice to the Ring Port while the ring is UP. -/
def State.pumpNotice (s : State) : State :=
  match s.mgmt.notices with
  | x :: _ =>
    if s.port.monitor = .up ∧ (s.port.source .notice).cond = .free then
      s.offer .notice s.mgmt.latched.supervisor (.notice x)
    else s
  | [] => s

/-- R138, R174, R185: the end of an event: the Route Dispatcher and then the notice source send what they now may. -/
def State.endEvent (s : State) : State := s.pumpRoute.pumpNotice

/-! ## Applying a verdict (R27) -/

/-- R136: a PASS or CONDEMN handed to the Dispatch Unit: appended to the actuator's list with its lane order, or held for a
full list, an offline actuator or a full Route FIFO. -/
def State.appendList (a : Actuator) (n : RecNo) (s : State) : State :=
  if 32 ≤ (s.dispatch.list a).length then (s.holdRec n .listFull).routeRec n .hold
  else if s.online a = false then (s.holdRec n a.offlineReason).routeRec n .hold
  else if 4 ≤ s.dispatch.routes.length then (s.holdRec n .routeUnconfirmed).routeRec n .hold
  else ((s.updDispatch fun d => d.setList a (d.list a ++ [n])).modRec n fun r =>
      { r with state := a.pendingState, passedBy := 0 }).routeRec n a.lane

/-- R124, R125: a RETEST: the budget lowered and the record in RETEST WAIT with its reference, or, the budget spent, in
HOLD with its reference released. -/
def State.retestRec (n : RecNo) (s : State) : State :=
  match s.getRec n with
  | some r =>
    if 0 < r.retestsLeft then
      (s.modRec n fun r => { r with state := .retestWait, retestsLeft := r.retestsLeft - 1 }).routeRec n .test
    else ((s.releaseRef n).holdRec n .retestsExhausted).routeRec n .hold
  | none => s

/-- R27, steps 2 to 4: the reference, the next state and the lane order that a verdict's kind gives. -/
def State.disposeRec (n : RecNo) (v : Verdict) (s : State) : State :=
  match v with
  | .pass => (s.releaseRef n).appendList .press n
  | .condemn _ => (s.releaseRef n).appendList .scrapCell n
  | .retest _ => s.retestRec n
  | .hold why => ((s.releaseRef n).holdRec n why.holdReason).routeRec n .hold

/-- R129: the VERDICT NOTICE of a record as it stands after its verdict; `figures` says whether test figures are
present. -/
def verdictNotice (n : RecNo) (v : Verdict) (figures : Bool) (r : Record) : Notice :=
  .verdict n r.serial v r.state r.holdReason r.retestsLeft (if figures then r.result else none)

/-- R27: a verdict applied to a record in one event: written, the reference released, the next state and lane order taken,
the notice offered and the verdict tally raised. A free number takes no verdict (log entry 16). -/
def State.giveVerdict (n : RecNo) (v : Verdict) (figures : Bool) (s : State) : State :=
  match s.getRec n with
  | none => s
  | some _ =>
    let s' := (s.modRec n fun r => { r with verdict := some v, seatedFrom := none }).disposeRec n v
    match s'.getRec n with
    | none => s'
    | some r => (s'.offerNotice (verdictNotice n v figures r)).tally v.tally

end Sys2Proof.Machine
end

