-- ==== Sys2Proof/Machine/Verdicts.lean ====
section
/-!
DEFINITION. The Expansion Calculator, the verdict order (chapter 6), and the early evaluation of inspection (chapter 3).
-/

namespace Sys2Proof.Machine

/-! ## Expansion arithmetic (R114 to R118) -/

/-- R114: the correction for a change of temperature: K × ΔT / 256 to the nearest whole number, halves away from zero. -/
def correction (k : Nat) (dT : Int) : Int :=
  let magnitude : Int := (((k * dT.natAbs + 128) / 256 : Nat) : Int)
  if dT < 0 then -magnitude else magnitude

/-- R115, R116: the rise in level from the zero reading to a later one, less the correction for its temperature. -/
def correctedRise (k : Nat) (zero later : Reading) : Int :=
  (later.level : Int) - zero.level - correction k ((later.temp : Int) - zero.temp)

/-- R116 to R118: the permanent figures for a total of 1 or more and a raw permanent. -/
def permanentOf (et raw : Int) : ClampFlags × Permanent :=
  let ep := if raw < 0 then 0 else if et < raw then et else raw
  (⟨decide (raw < 0), decide (et < raw)⟩,
    ⟨ep.toNat, (et - ep).toNat, ep.toNat * 1000 / et.toNat⟩)

/-- R113 to R118: what the Expansion Calculator writes from the three readings and the station's K. -/
def expansionOf (k : Nat) (zero total settled : Reading) : Expansion :=
  let et := correctedRise k zero total
  if et ≤ 0 then ⟨et, ⟨false, false⟩, none⟩
  else
    let p := permanentOf et (correctedRise k zero settled)
    ⟨et, p.1, some p.2⟩

/-! ## The verdict order (R119 to R122) -/

/-- R121: how a test ended: with the settle capture and its expansion, a burst, an overpressure, or a retest reason. -/
inductive TestEnd where
  | captured (x : Expansion)
  | burst
  | overpressure
  | retest (r : Reason)
  deriving DecidableEq, Repr

/-- R47: at least one condemn finding is present. -/
def condemnFound (e : TypeEntry) (r : Record) : Bool := r.findings &&& e.condemnMask != 0

/-- R47: at least one hold finding is present: one in the hold mask and not in the condemn mask. -/
def holdFound (e : TypeEntry) (r : Record) : Bool := r.findings &&& e.holdMask &&& ~~~e.condemnMask != 0

/-- R120, rows 4 to 9: the verdict at a settle capture with no condemn finding. -/
def capturedVerdict (e : TypeEntry) (r : Record) (x : Expansion) : Verdict :=
  if x.et ≤ 0 then .retest .noExpansion
  else if (e.ree : Int) < x.et then .condemn .elastic
  else if e.permLimit < ((x.perm.map (·.ratio)).getD 0) then .condemn .permanent
  else if holdFound e r ∨ (r.weight = .noTagTare ∧ e.tareLossLimit ≠ 0) then .hold .finding
  else if r.weight = .loss then .condemn .weightLoss
  else .pass

/-- R120: the verdict order: the first row that applies. -/
def verdictOrder (e : TypeEntry) (r : Record) (how : TestEnd) : Verdict :=
  if condemnFound e r then .condemn .finding
  else match how with
    | .burst => .condemn .burst
    | .overpressure => .condemn .overpressure
    | .retest why => .retest why
    | .captured x => capturedVerdict e r x

/-! ## Inspection (R53, R55, R56) -/

/-- R53: the weight check from the tag tare, the measured tare and the tare loss limit. -/
def weightCheck (tagTare : Option Nat) (measured limit : Nat) : WeightCheck :=
  match tagTare with
  | none => .noTagTare
  | some tag =>
    if tag ≤ measured then .ok
    else if limit = 0 then .ok
    else if limit < (tag - measured) * 1000 / tag then .loss
    else .ok

/-- R55: items done includes every required item. -/
def inspectionComplete (e : TypeEntry) (r : Record) : Bool := e.required &&& ~~~r.items == 0

/-- R56, rows 1 to 4: the early verdict, where one is given. -/
def earlyVerdict (e : TypeEntry) (r : Record) : Option Verdict :=
  if condemnFound e r then some (.condemn .finding)
  else if r.weight = .loss ∧ e.tareLossLimit ≠ 0 then some (.condemn .weightLoss)
  else if holdFound e r then some (.hold .finding)
  else if r.weight = .noTagTare ∧ e.tareLossLimit ≠ 0 then some (.hold .noTare)
  else none

end Sys2Proof.Machine
end

