-- ==== Sys2Proof/Machine/Stations.lean ====
section
/-!
DEFINITION. The Station Controller outside the pressure cycle (chapter 4): orders to stations, entering a state, ending a
test, seating, and the events SEATED, SEAL FAULT, RELEASED and BURST.
-/

namespace Sys2Proof.Machine

/-! ## Entries and orders -/

def State.station (s : State) (i : StationNo) : Station := s.stations[i]

def State.updStation (i : StationNo) (f : Station → Station) (s : State) : State :=
  { s with stations := s.stations.set i.val (f (s.station i)) i.isLt }

/-- R64: the Station Table entry whose unit address is a source address, the lowest index where several are (log
entry 16). Address 0 is no station's. -/
def State.stationAt (s : State) (addr : Byte) : Option StationNo :=
  if addr = 0 then none else (List.finRange 8).find? fun i => (s.station i).cfg.addr == addr

/-- R79: an order offered by a station context to its station. -/
def State.orderStation (i : StationNo) (o : Order) (s : State) : State :=
  s.offer (.station i) (s.station i).cfg.addr (.order o)

/-- R66: SEATED..SETTLING. -/
def StState.inCycle : StState → Bool
  | .seated => true
  | .ramping => true
  | .holding => true
  | .venting => true
  | .settling => true
  | _ => false

/-- R66: SEATED..RELEASING, the states the supervision scan watches. -/
def StState.watched : StState → Bool
  | .releasing => true
  | st => st.inCycle

/-- R76: an empty context apart from the last frame time, in a given state. The leaving-service flag is part of the
context (R65) and is clear (log entry 14). -/
def Station.emptied (st : Station) (into : StState) : Station :=
  { Station.blank with cfg := st.cfg, state := into, lastFrame := st.lastFrame }

/-- R76: the station enters VACANT. -/
def State.enterVacant (i : StationNo) (s : State) : State := s.updStation i (·.emptied .vacant)

/-- R68, R77, R80: FAULTED: the phase deadline disarmed, the flags cleared, no test in progress. -/
def Station.faulted (st : Station) : Station :=
  { st with state := .faulted, record := none, deadline := none, extensionEnd := none, aborted := false,
            leaving := false, sealPending := false }

def State.enterFaulted (i : StationNo) (s : State) : State := s.updStation i Station.faulted

/-- R84, R85: RESYNC: the phase deadline disarmed, the aborted flag cleared, the leaving-service flag kept. -/
def Station.resynced (st : Station) : Station :=
  { st with state := .resync, record := none, deadline := none, extensionEnd := none, aborted := false }

/-- R109: RELEASING with the release deadline armed, 60 s. -/
def Station.releasing (c : Clock) (st : Station) : Station :=
  { st with state := .releasing, record := none, deadline := some (afterSecs c 60), extensionEnd := none,
            aborted := false, sealPending := false }

/-- R69, R74, R105, R107: an order that unseats the cylinder offered, and the station in RELEASING. -/
def State.releaseWith (i : StationNo) (o : Order) (s : State) : State :=
  (s.orderStation i o).updStation i (Station.releasing s.clock)

/-- R74, R98: VENT offered and the station in VENTING with the aborted flag set and its vent deadline armed. -/
def State.ventAborted (i : StationNo) (e : TypeEntry) (s : State) : State :=
  (s.orderStation i .vent).updStation i fun st =>
    { st with state := .venting, aborted := true, deadline := some (afterSecs s.clock e.ventTimeout), extensionEnd := none }

/-- The record of a test in progress at a station, with its number. -/
def State.testRec (s : State) (i : StationNo) : Option (RecNo × Record) :=
  (s.station i).record.bind fun n => (s.getRec n).map fun r => (n, r)

/-- R15: the type entry a test in progress at a station is run and judged by. -/
def State.testEntry (s : State) (i : StationNo) : TypeEntry :=
  match s.testRec i with
  | some (_, r) => s.typeEntry r
  | none => TypeEntry.invalid

/-! ## Ending a test (R73, R74) -/

/-- R65, R73: the test at a station is no longer in progress. -/
def State.unlink (i : StationNo) (s : State) : State := s.updStation i fun st => { st with record := none }

/-- R26: a record returned to its seated-from state, with the reason of a test ended before its first ramp step. -/
def returned (why : Reason) (r : Record) : Record :=
  { r with
    state := (match r.seatedFrom with
      | some f => f.recState
      | none => r.state),
    seatedFrom := none, lastAbort := some why }

/-- R73, R119: a test in progress ended with a verdict from the verdict order; test figures are present when its step 1
was ordered, that is, in every state but SEATED (R129). -/
def State.concludeTest (i : StationNo) (how : TestEnd) (s : State) : State :=
  match s.testRec i with
  | some (n, r) =>
    (s.giveVerdict n (verdictOrder (s.typeEntry r) r how) (decide ((s.station i).state ≠ .seated))).unlink i
  | none => s.unlink i

/-- R73: the record side of an early end with a reason; nothing where no test is in progress. -/
def State.endTest (i : StationNo) (why : Reason) (s : State) : State :=
  if (s.station i).state = .seated then
    match (s.station i).record with
    | some n => (s.modRec n (returned why)).unlink i
    | none => s
  else s.concludeTest i (.retest why)

/-- R74: the station side of the ordinary abort path, under the type entry of the test just ended. -/
def State.abortPath (i : StationNo) (e : TypeEntry) (s : State) : State :=
  match (s.station i).state with
  | .seated => s.releaseWith i .release
  | .settling => s.releaseWith i .release
  | .ramping => s.ventAborted i e
  | .holding => s.ventAborted i e
  | .venting => s.updStation i fun st => { st with aborted := true }
  | _ => s

/-- R73, R74: a test in progress ended by a reason of the ordinary abort path. -/
def State.abortTest (i : StationNo) (why : Reason) (s : State) : State :=
  (s.endTest i why).abortPath i (s.testEntry i)

/-! ## Station events outside the cycle -/

/-- R161: a frame taken and ignored, counted in the ignored-frames tally. -/
def State.ignored (s : State) : State := s.tally .ignored

/-- R65, R69: the context made ready for a new test of record `n`, the zero deadline armed (R92). -/
def Station.ready (n : RecNo) (c : Clock) (e : TypeEntry) (st : Station) : Station :=
  { st with state := .seated, record := some n, step := 0, window := [], expected := none, pressures := none, gaps := 0,
            aborted := false, sealPending := false, deadline := some (afterSecs c e.zeroTimeout), extensionEnd := none }

/-- R69, step 1: the eligible record a serial field names: INSPECTED or RETEST WAIT, with the state it would be seated
from. -/
def State.eligible (s : State) (field : List Byte) : Option (RecNo × Record × SeatedFrom) :=
  match (serialOf field).bind s.findSerial with
  | none => none
  | some n =>
    match s.getRec n with
    | some r =>
      match r.state with
      | .inspected => some (n, r, .inspected)
      | .retestWait => some (n, r, .retestWait)
      | _ => none
    | none => none

/-- R26, R69: an eligible record seated: ON TEST, START offered, the station in SEATED. -/
def State.acceptSeat (i : StationNo) (n : RecNo) (r : Record) (f : SeatedFrom) (s : State) : State :=
  ((s.putRec n (some { r with state := .onTest, seatedFrom := some f, verdict := none })).orderStation i
    (.start r.serial)).updStation i (Station.ready n s.clock (s.typeEntry r))

/-- R69: a SEATED event in VACANT. -/
def State.seatVacant (i : StationNo) (field : List Byte) (s : State) : State :=
  match s.eligible field with
  | none => (s.releaseWith i (.reject (echoField field))).ignored
  | some (n, r, f) =>
    if (s.station i).sealPending then
      (s.releaseWith i (.reject (echoField field))).modRec n fun r => { r with lastAbort := some .seal }
    else s.acceptSeat i n r f

/-- R76: the release of a cylinder ends: OUT OF SERVICE where the leaving-service flag is set, which is cleared, else
VACANT. -/
def State.finishRelease (i : StationNo) (s : State) : State :=
  if (s.station i).leaving then
    s.updStation i fun st => { st with state := .outOfService, deadline := none, leaving := false }
  else s.enterVacant i

/-- R69 to R72: a SEATED event. -/
def State.seatedEvent (i : StationNo) (field : List Byte) (s : State) : State :=
  match (s.station i).state with
  | .vacant => s.seatVacant i field
  | .releasing =>
    if (s.station i).leaving then (s.finishRelease i).ignored else (s.finishRelease i).seatVacant i field
  | .outOfService => s.ignored
  | .faulted => s.ignored
  | .resync => s.ignored
  | _ => ((s.endTest i .superseded).enterVacant i).seatVacant i field

/-- R75: a SEAL FAULT event. -/
def State.sealFaultEvent (i : StationNo) (s : State) : State :=
  match (s.station i).state with
  | .vacant => s.updStation i fun st => { st with sealPending := true }
  | .seated => s.abortTest i .seal
  | .ramping => s.abortTest i .seal
  | .holding => s.abortTest i .seal
  | .settling => s.abortTest i .seal
  | .venting => if (s.station i).aborted then s.ignored else s.abortTest i .seal
  | _ => s.ignored

/-- R76: a RELEASED event. -/
def State.releasedEvent (i : StationNo) (s : State) : State :=
  match (s.station i).state with
  | .releasing => s.finishRelease i
  | .resync => s.finishRelease i
  | .vacant => s.updStation i fun st => { st with sealPending := false }
  | .outOfService => s.ignored
  | .faulted => s.ignored
  | _ => (s.endTest i .superseded).enterVacant i

/-- R77: a BURST event. -/
def State.burstEvent (i : StationNo) (s : State) : State :=
  if (s.station i).state = .outOfService then s.ignored
  else
    ((if (s.station i).record.isSome then s.concludeTest i .burst else s).enterFaulted i).updPort
      (·.emptySlot (.station i))

/-- R80: a second not-taken report of an order to a station. -/
def State.stationUnreachable (i : StationNo) (b : Body) (s : State) : State :=
  if b = .order .abort then s
  else if (s.station i).state.watched then ((s.endTest i .silent).enterFaulted i).orderStation i .abort
  else s

/-- R68: a station declared silent. -/
def State.declareSilent (i : StationNo) (s : State) : State :=
  ((s.endTest i .silent).enterFaulted i).orderStation i .abort

/-- R68: a station that the scan finds silent: watched, its last frame more than its silence limit ago. -/
def State.isSilent (s : State) (i : StationNo) : Bool :=
  (s.station i).state.watched && (s.station i).cfg.silence * 1000 < (s.clock - (s.station i).lastFrame).toNat

/-- R68: the supervision scan: each silent station declared in its own event, in ascending order. -/
def State.scan (s : State) : State :=
  (List.finRange 8).foldl (fun s i => if s.isSilent i then (s.declareSilent i).endEvent else s) s

end Sys2Proof.Machine
end

