-- ==== Sys2Proof/Machine/Cycle.lean ====
section
/-!
DEFINITION. The pressure cycle (chapter 5): samples, zero capture, the ramp, the hold, venting, settling, and the phase
deadlines. A deadline command acts only in the state its deadline was armed for and when the clock has reached it (R67);
otherwise nothing expires (log entry 2).
-/

namespace Sys2Proof.Machine

/-! ## The sample window (R91) -/

/-- R91: a sample enters a window, which holds the latest 16. -/
def pushSample (w : List Sample) (x : Sample) : List Sample := (w ++ [x]).drop ((w.length + 1) - 16)

/-- R91: the levels of the latest `k` samples. -/
def latestLevels (w : List Sample) (k : Nat) : List Nat := (w.drop (w.length - k)).map (·.level)

/-- R91: the window is stable: at least W samples, and the largest less the smallest of the latest W levels no more than
the stability band. -/
def stable (e : TypeEntry) (w : List Sample) : Bool :=
  e.window ≤ w.length && (latestLevels w e.window).all fun a => (latestLevels w e.window).all fun b => a ≤ b + e.stabBand

/-- R90: a temperature from 10000 to 65534 is clamped to 9999. -/
def clampTemp (t : Nat) : Nat := min t 9999

/-- R90: a sample field of 65535 reports a failed sensor. -/
def SampleFields.failed (x : SampleFields) : Bool := x.pressure == 65535 || x.level == 65535 || x.temp == 65535

/-- R90, R91: a sample as it enters a window. -/
def SampleFields.entered (x : SampleFields) : Sample := ⟨x.pressure, x.level, clampTemp x.temp⟩

/-- R88: the number of samples missed before this one, or none where it is stale. -/
def missedBefore (expected : Option Byte) (seq : Byte) : Option Nat :=
  match expected with
  | none => some 0
  | some e => if (seq - e).toNat < 128 then some (seq - e).toNat else none

/-! ## The test result (R110) -/

/-- R110: the test result of the test in progress at a station changed. -/
def State.modResult (i : StationNo) (f : TestResult → TestResult) (s : State) : State :=
  match (s.station i).record with
  | some n => s.modRec n fun r => { r with result := r.result.map f }
  | none => s

/-- R100: a pressure entered into a range. -/
def widen (p : Nat) : Option PressureRange → PressureRange
  | none => ⟨p, p⟩
  | some x => ⟨min x.pmin p, max x.pmax p⟩

/-- The latest sample of a window as a reading. -/
def latestReading (w : List Sample) : Option Reading := w.getLast?.map fun x => ⟨x.level, x.temp⟩

/-! ## Zero capture and the ramp (R92 to R98) -/

/-- R95: the target pressure of step `k` of `n`. -/
def stepTarget (pt n k : Nat) : Nat := if k = n then pt else pt * k / n

/-- R95: a STEP order for step `k` offered, the step index set and the step deadline armed. -/
def State.orderStep (i : StationNo) (e : TypeEntry) (k : Nat) (s : State) : State :=
  (s.orderStation i (.step k (stepTarget e.pt e.steps k))).updStation i fun st =>
    { st with step := k, deadline := some (afterSecs s.clock e.stepTimeout) }

/-- R93: the test result a new attempt creates, and the attempts raised by one, stopping at 15. -/
def startAttempt (i : StationNo) (zero : Reading) (gaps : Nat) (r : Record) : Record :=
  { r with
    attempts := min (r.attempts + 1) 15,
    result := some ⟨i, min (r.attempts + 1) 15, (match r.bank with | some b => b.gen | none => 0), zero, gaps, none, none,
      none, none⟩ }

/-- R93: zero captured: step 1 ordered, the attempt counted, the test result created, the station in RAMPING. -/
def State.captureZero (i : StationNo) (e : TypeEntry) (x : Sample) (s : State) : State :=
  let s1 :=
    match (s.station i).record with
    | some n => s.modRec n (startAttempt i ⟨x.level, x.temp⟩ (s.station i).gaps)
    | none => s
  (s1.orderStep i e 1).updStation i fun st => { st with state := .ramping }

/-- R92: zero is ready: the window stable and the latest sample's pressure no more than PT / 50. -/
def zeroReady (e : TypeEntry) (w : List Sample) (x : Sample) : Bool := stable e w && x.pressure ≤ e.pt / 50

/-- R98: the test ended with overpressure recorded, VENT offered. -/
def State.overpressure (i : StationNo) (e : TypeEntry) (s : State) : State :=
  (s.concludeTest i .overpressure).ventAborted i e

/-- R100: a hold sample's pressure entered into Pmin and Pmax, of the context and of the test result. -/
def State.holdPressure (i : StationNo) (p : Nat) (s : State) : State :=
  let range := widen p (s.station i).pressures
  (s.updStation i fun st => { st with pressures := some range }).modResult i fun t => { t with pressures := some range }

/-- R100: the checks of a hold sample, in order. -/
def State.holdSample (i : StationNo) (e : TypeEntry) (x : Sample) (s : State) : State :=
  let s1 := s.holdPressure i x.pressure
  if e.pt + e.band < x.pressure then s1.overpressure i e
  else if x.pressure < e.pt then s1.abortTest i .pressureLost
  else s1

/-- R87, step 5: the phase acts on a sample that has entered the window. -/
def State.phaseSample (i : StationNo) (x : Sample) (s : State) : State :=
  let e := s.testEntry i
  match (s.station i).state with
  | .seated => if zeroReady e (s.station i).window x then s.captureZero i e x else s
  | .ramping => if e.pt + e.band < x.pressure then s.overpressure i e else s
  | .holding => s.holdSample i e x
  | _ => s

/-! ## Gaps (R89) -/

/-- R89: a gap count, stopping at 255. -/
def addGaps (n missed : Nat) : Nat := min (n + missed) 255

/-- R89: missed samples added to the station's gap count and, once step 1 has been ordered, to the test result. -/
def State.countGap (i : StationNo) (missed : Nat) (s : State) : State :=
  let total := addGaps (s.station i).gaps missed
  let s1 := s.updStation i fun st => { st with gaps := total }
  if (s.station i).state = .seated then s1 else s1.modResult i fun t => { t with gaps := total }

/-- R89: a gap event that leaves a gap count ends the test: in HOLDING and SETTLING, always in strict mode, and in lenient
mode when the count exceeds 3. -/
def gapEnds (st : StState) (mode : GapMode) (gaps : Nat) : Bool :=
  (st == .holding || st == .settling) && (mode == .strict || 3 < gaps)

/-! ## A sample (R87, R111) -/

/-- R88: a used sample moves the expected sequence on. -/
def State.expectNext (i : StationNo) (seq : Byte) (s : State) : State :=
  s.updStation i fun st => { st with expected := some (seq + 1) }

/-- R91: a sample enters the station's window. -/
def State.enterWindow (i : StationNo) (x : Sample) (s : State) : State :=
  s.updStation i fun st => { st with window := pushSample st.window x }

/-- R87, steps 3 to 5: the fields examined, the window entered, the phase acting. -/
def State.useSample (i : StationNo) (x : SampleFields) (s : State) : State :=
  if x.failed then s.abortTest i .sensor else (s.enterWindow i x.entered).phaseSample i x.entered

/-- R87, steps 2 to 5: a sample that is not stale, `missed` samples before it. -/
def State.inOrderSample (i : StationNo) (missed : Nat) (x : SampleFields) (s : State) : State :=
  if missed = 0 then s.useSample i x
  else
    let s1 := s.countGap i missed
    if gapEnds (s.station i).state s.mgmt.latched.gapMode (s1.station i).gaps then s1.abortTest i .sampleGaps
    else s1.useSample i x

/-- R87, R111: a SAMPLE at a station; in a state outside SEATED..SETTLING it is ignored and not counted (R78). -/
def State.sampleEvent (i : StationNo) (x : SampleFields) (s : State) : State :=
  if (s.station i).state.inCycle then
    match missedBefore (s.station i).expected x.seq with
    | none => s
    | some missed =>
      let s1 := s.expectNext i x.seq
      if (s.station i).state = .venting ∧ (s.station i).aborted then
        if x.failed then s1 else s1.enterWindow i x.entered
      else s1.inOrderSample i missed x
  else s

/-! ## REACHED and VENTED (R96, R99, R105) -/

/-- R99: the hold begins. -/
def State.beginHold (i : StationNo) (e : TypeEntry) (s : State) : State :=
  (s.updStation i fun st =>
      { st with state := .holding, deadline := some (afterSecs s.clock e.holdTime), window := [],
                pressures := none }).modResult i fun t => { t with pressures := none }

/-- R78, R96: a REACHED event. -/
def State.reachedEvent (i : StationNo) (k : Nat) (s : State) : State :=
  let e := s.testEntry i
  if (s.station i).state = .ramping ∧ k = (s.station i).step then
    if k < e.steps then s.orderStep i e (k + 1) else s.beginHold i e
  else s.ignored

/-- R78, R105: a VENTED event. -/
def State.ventedEvent (i : StationNo) (s : State) : State :=
  if (s.station i).state = .venting then
    if (s.station i).aborted then s.releaseWith i .release
    else s.updStation i fun st =>
      { st with state := .settling, deadline := some (afterSecs s.clock (s.testEntry i).settleTime), window := [] }
  else s.ignored

/-! ## Phase deadlines -/

/-- R67: the phase deadline of a station is armed and reached. -/
def State.phaseDue (s : State) (i : StationNo) : Bool := expired s.clock (s.station i).deadline

/-- R94: the zero deadline. -/
def State.zeroExpiry (i : StationNo) (s : State) : State :=
  if (s.station i).state = .seated ∧ s.phaseDue i then s.abortTest i .zeroUnstable else s

/-- R97: the step deadline. -/
def State.stepExpiry (i : StationNo) (s : State) : State :=
  if (s.station i).state = .ramping ∧ s.phaseDue i then s.abortTest i .stepTimeout else s

/-- R101: the hold ends with capture. -/
def State.captureHold (i : StationNo) (s : State) : State :=
  let e := s.testEntry i
  ((s.modResult i fun t => { t with total := latestReading (s.station i).window }).orderStation i .vent).updStation i
    fun st => { st with state := .venting, aborted := false, deadline := some (afterSecs s.clock e.ventTimeout),
                        extensionEnd := none }

/-- R107, R113: the readings of a settle capture turned into the expansion, with the station's K. -/
def calculated (k : Nat) (t : TestResult) : Option Expansion :=
  match t.total, t.settled with
  | some total, some settled => some (expansionOf k t.zero total settled)
  | _, _ => none

/-- R107: the settle capture: Lp and Tp written, the expansion formed, the verdict given, the station releasing. A test
without its three readings (never in a run) ends with NO EXPANSION (log entry 16). -/
def State.captureSettle (i : StationNo) (s : State) : State :=
  let s1 := s.modResult i fun t => { t with settled := latestReading (s.station i).window }
  let s2 := s1.modResult i fun t => { t with expansion := calculated (s.station i).cfg.k t }
  let s3 :=
    match ((s2.testRec i).bind fun x => x.2.result).bind (·.expansion) with
    | some x => s2.concludeTest i (.captured x)
    | none => s2.concludeTest i (.retest .noExpansion)
  s3.releaseWith i .release

/-- R101, R107: a hold or a settle ends with capture. -/
def State.capture (i : StationNo) (s : State) : State :=
  if (s.station i).state = .holding then s.captureHold i else s.captureSettle i

/-- R102: the next extension check: one expected sample period after this expiry, or the extension end if sooner. -/
def nextCheck (clock : Clock) (period : Nat) (last : Clock) : Clock :=
  if reached (afterMs clock period) last then last else afterMs clock period

/-- R102: a hold or settle deadline that finds the window unstable: the extension begins, or, with nothing to extend by,
the test ends with UNSTABLE. -/
def State.beginExtension (i : StationNo) (s : State) : State :=
  match (s.station i).deadline with
  | some d =>
    let last := afterSecs d (s.testEntry i).maxExtension
    if reached s.clock last then s.abortTest i .unstable
    else s.updStation i fun st =>
      { st with extensionEnd := some last, deadline := some (nextCheck s.clock st.cfg.period last) }
  | none => s

/-- R101, R102, R107: the hold or settle deadline of a station in the given state, no extension begun. -/
def State.phaseEndExpiry (i : StationNo) (phase : StState) (s : State) : State :=
  if (s.station i).state = phase ∧ (s.station i).extensionEnd = none ∧ s.phaseDue i then
    if stable (s.testEntry i) (s.station i).window then s.capture i else s.beginExtension i
  else s

/-- R102: an extension check. -/
def State.extensionExpiry (i : StationNo) (s : State) : State :=
  match (s.station i).extensionEnd with
  | none => s
  | some last =>
    if ((s.station i).state = .holding ∨ (s.station i).state = .settling) ∧ s.phaseDue i then
      if stable (s.testEntry i) (s.station i).window then s.capture i
      else if reached s.clock last then s.abortTest i .unstable
      else s.updStation i fun st => { st with deadline := some (nextCheck s.clock st.cfg.period last) }
    else s

/-- R106: the vent deadline. -/
def State.ventExpiry (i : StationNo) (s : State) : State :=
  if (s.station i).state = .venting ∧ s.phaseDue i then
    ((s.endTest i .ventTimeout).enterFaulted i).orderStation i .abort
  else s

/-- R109: the release deadline. -/
def State.releaseExpiry (i : StationNo) (s : State) : State :=
  if (s.station i).state = .releasing ∧ s.phaseDue i then (s.enterFaulted i).orderStation i .abort else s

end Sys2Proof.Machine
end

