-- ==== Sys2Proof/Machine/Intake.lean ====
section
/-!
DEFINITION. The Record Table's frames: intake reads (chapter 2) and FINDING frames (chapter 3). Each answers the state after
the frame and whether the frame is taken.
-/

namespace Sys2Proof.Machine

/-! ## Opening and reopening records (R31, R34, R39) -/

/-- R31: the lowest free number. -/
def State.lowestFree (s : State) : Option RecNo := (List.finRange 128).find? fun n => (s.getRec n).isNone

/-- R29, R30: a number taken from the Closed List, from whatever position it holds; the others keep their order. -/
def State.unclose (n : RecNo) (s : State) : State :=
  s.updRecords fun t => { t with closed := t.closed.filter fun m => m != n }

/-- R43: a record's number freed. -/
def State.freeRec (n : RecNo) (s : State) : State := (s.unclose n).putRec n none

/-- R31: a number for a fresh record: the lowest free one, else the head of the Closed List reclaimed, else none. -/
def State.allocate (s : State) : Option (RecNo × State) :=
  match s.lowestFree with
  | some n => some (n, s)
  | none =>
    match s.records.closed with
    | n :: _ => some (n, s.freeRec n)
    | [] => none

/-- R21: the open count raised by one. -/
def State.raiseOpen (s : State) : State := s.updRecords fun t => { t with openCount := t.openCount + 1 }

/-- R34: a fresh record, before its type is resolved; its state and its disposition are decided in the same event. -/
def freshRecord (t : TagFields) (serial : List Byte) (openSeq : BitVec 32) : Record where
  serial := serial
  state := .hold
  seatedFrom := none
  maker := t.maker
  model := t.model
  year := t.year
  tagTare := t.tare
  typeCode := none
  bank := none
  openSeq := openSeq
  items := 0
  findings := 0
  measuredTare := none
  weight := .notDone
  attempts := 0
  retestsLeft := 0
  lastAbort := none
  result := none
  verdict := none
  holdReason := none
  passedBy := 0
  clash := 0

/-- R39: a record reopened, before its type is resolved: attempts, last pre-pressure abort, test result and clash count
are kept, everything else is as in a fresh record of the new read. -/
def reopenedRecord (t : TagFields) (openSeq : BitVec 32) (r : Record) : Record :=
  { freshRecord t r.serial openSeq with
    attempts := r.attempts, lastAbort := r.lastAbort, result := r.result, clash := r.clash }

/-- R38: a record enters IDENTIFIED, referencing the ACTIVE bank. -/
def State.identify (n : RecNo) (r : Record) (s : State) : State :=
  let k := s.banks.activeId
  ((s.putRec n (some { r with state := .identified, bank := some ⟨k, (s.banks.get k).gen⟩ })).updBanks fun t =>
    t.set k (t.get k).take).routeRec n .test

/-- R36: the manufacture year is later than the Calendar year; R32 lets no intake read be taken with the Calendar unset. -/
def tooNew (cal : Option Calendar) (year : Nat) : Bool := cal.any fun c => c.year < year

/-- R37: the service life is not 0 and the age is equal to or greater than it. -/
def pastLife (cal : Option Calendar) (year life : Nat) : Bool :=
  cal.any fun c => life != 0 && life + year ≤ c.year

/-- R35 to R38: an opened or reopened record has its type resolved in the ACTIVE bank and its checks made. -/
def State.typeRec (n : RecNo) (r : Record) (s : State) : State :=
  let bank := s.banks.get s.banks.activeId
  match bank.resolve r.maker r.model with
  | none => (s.putRec n (some r)).giveVerdict n (.hold .unknownType) false
  | some c =>
    let e := bank.typeTable[c]
    let r' := { r with typeCode := some c, retestsLeft := e.retestLimit }
    if tooNew s.mgmt.calendar r.year then (s.putRec n (some r')).giveVerdict n (.hold .tagDate) false
    else if pastLife s.mgmt.calendar r.year e.serviceLife then
      (s.putRec n (some r')).giveVerdict n (.condemn .life) false
    else s.identify n r'

/-- R31 to R34: a fresh record opened for a serial that no record holds, or NO SPACE. -/
def State.openFresh (t : TagFields) (serial : List Byte) (s : State) : State :=
  match s.allocate with
  | some (n, s1) =>
    let s2 := s1.raiseOpen
    s2.typeRec n (freshRecord t serial s2.records.openCount)
  | none => (s.tally .noSpace).placeRoute ⟨serial, .hold, none⟩

/-- R39: a record in HOLD or LOST reopened in its own number. -/
def State.reopen (n : RecNo) (r : Record) (t : TagFields) (s : State) : State :=
  let s1 := (s.unclose n).raiseOpen
  s1.typeRec n (reopenedRecord t s1.records.openCount r)

/-- R41: a CLASH. -/
def State.clash (n : RecNo) (serial : List Byte) (s : State) : State :=
  ((s.modRec n fun r => { r with clash := min (r.clash + 1) 255 }).tally .clashes).placeRoute ⟨serial, .hold, none⟩

/-- R33: the lookup of an admitted intake read. -/
def State.lookUp (t : TagFields) (serial : List Byte) (s : State) : State :=
  match s.findSerial serial with
  | none => s.openFresh t serial
  | some n =>
    match s.getRec n with
    | none => s
    | some r =>
      match r.state with
      | .hold => s.reopen n r t
      | .lost => s.reopen n r t
      | .marked => (s.freeRec n).openFresh t serial
      | _ => s.clash n serial

/-- R32, steps 2 to 5, with the length check of R194 before them: an intake read from an INTAKE READER. -/
def State.intake (p : List Byte) (s : State) : State × Bool :=
  match tagFields p with
  | none => (s.ignored, true)
  | some t =>
    if s.mgmt.calendar = none then (s, false)
    else if 4 ≤ s.dispatch.routes.length then (s, false)
    else
      match serialOf t.field with
      | some serial => if 1950 ≤ t.year ∧ t.year ≤ 2099 then (s.lookUp t serial, true) else (s.ignored, true)
      | none => (s.ignored, true)

/-! ## FINDING frames (R48 to R59) -/

/-- R51, steps 1 to 3: a FINDING applied to a record, under the tare loss limit of its type. -/
def applyFinding (f : FindingFields) (limit : Nat) (r : Record) : Record :=
  let r1 := { r with findings := (r.findings &&& ~~~f.clears) ||| f.sets, items := r.items ||| f.items }
  match f.tare with
  | none => r1
  | some m => { r1 with measuredTare := some m, weight := weightCheck r.tagTare m limit }

/-- R56: the evaluation of a record whose fields a FINDING has updated: an early verdict, or none, when a record in
IDENTIFIED enters INSPECTED and one in INSPECTED or RETEST WAIT stays. -/
def State.evaluate (n : RecNo) (s : State) : State :=
  match s.getRec n with
  | none => s
  | some r =>
    match earlyVerdict (s.typeEntry r) r with
    | some v => s.giveVerdict n v false
    | none => if r.state = .identified then s.modRec n fun r => { r with state := .inspected } else s

/-- R55: the close test of a record in IDENTIFIED. -/
def State.closeTest (n : RecNo) (s : State) : State :=
  match s.getRec n with
  | none => s
  | some r => if inspectionComplete (s.typeEntry r) r then s.evaluate n else s

/-- R49, R50, R58, R59: a FINDING by the state of the record that holds its serial. A late finding raises the late-findings
tally alone, not the ignored-frames tally too (log entry 26). -/
def State.findingFor (n : RecNo) (r : Record) (f : FindingFields) (s : State) : State × Bool :=
  let full : Bool := 4 ≤ s.dispatch.routes.length
  let applied := s.modRec n (applyFinding f (s.typeEntry r).tareLossLimit)
  match r.state with
  | .identified => if full then (s, false) else (applied.closeTest n, true)
  | .inspected => if full then (s, false) else (applied.evaluate n, true)
  | .retestWait => if full then (s, false) else (applied.evaluate n, true)
  | .onTest => (applied, true)
  | _ => (s.tally .lateFindings, true)

/-- R48, steps 2 and 3, with the length check of R194 before them: a FINDING from an INSPECTION unit. -/
def State.findingFrame (p : List Byte) (s : State) : State × Bool :=
  match findingFields p with
  | none => (s.ignored, true)
  | some f =>
    match serialOf f.field with
    | none => (s.ignored, true)
    | some serial =>
      match s.findSerial serial with
      | none => (s.ignored, true)
      | some n =>
        match s.getRec n with
        | none => (s.ignored, true)
        | some r => s.findingFor n r f

end Sys2Proof.Machine
end

