-- ==== Sys2Proof/Machine/Lanes.lean ====
section
/-!
DEFINITION. The Dispatch Unit's frames, deadlines and reports (chapter 7): arrivals, DONE frames, the stamp and condemn
deadlines, and the outcomes of ROUTE, STAMP, CONDEMN and REFUSE orders. The press and the scrap cell share every rule
(R152), so each operation takes the actuator.
-/

namespace Sys2Proof.Machine

/-! ## Arrivals (R144 to R148) -/

/-- The number of the record that holds a serial on an actuator's list. -/
def State.onList (s : State) (a : Actuator) (serial : List Byte) : Option RecNo :=
  (s.dispatch.list a).find? fun n => (s.getRec n).any fun r => r.serial == serial

def State.setList (a : Actuator) (l : List RecNo) (s : State) : State := s.updDispatch (·.setList a l)

def State.setDisp (a : Actuator) (x : ActDispatcher) (s : State) : State := s.updDispatch (·.setDisp a x)

def State.setOffline (a : Actuator) (x : Bool) (s : State) : State := s.updDispatch (·.setOffline a x)

/-- R135: a number leaves an actuator's list from whatever position it holds; the others keep their order. -/
def State.dropFromList (a : Actuator) (n : RecNo) (s : State) : State :=
  s.setList a ((s.dispatch.list a).filter fun m => m != n)

/-- R146: an entry declared LOST. -/
def State.declareLost (a : Actuator) (n : RecNo) (s : State) : State :=
  match s.getRec n with
  | some r =>
    (((s.dropFromList a n).closeRec n .lost).tally .lost).offerNotice (.lost n r.serial r.verdict a.listId)
  | none => s

/-- R145, step 1: an entry ahead of a matched one passed by: its count raised, or, where it would reach 8, the entry
declared LOST. -/
def State.passBy (a : Actuator) (s : State) (n : RecNo) : State :=
  match s.getRec n with
  | some r =>
    if 7 ≤ r.passedBy then s.declareLost a n else s.modRec n fun r => { r with passedBy := r.passedBy + 1 }
  | none => s

/-- R145, step 1: the entries of a list nearer the head than a matched one. -/
def ahead (n : RecNo) (l : List RecNo) : List RecNo := l.takeWhile fun m => m != n

/-- R147, R153: the STAMP or CONDEMN order for a matched record. -/
def State.actOrder (s : State) (a : Actuator) (r : Record) : Order :=
  match a with
  | .press =>
    let c := s.mgmt.calendar.getD ⟨0, 2000⟩
    .stamp r.serial s.mgmt.latched.mark c.month (c.year - 2000)
  | .scrapCell => .condemn r.serial ((r.verdict.bind (·.reason)).getD .finding)

/-- R145, steps 2 to 4: the matched entry leaves its list, its record enters AT PRESS or AT SCRAP CELL, the order is
offered, and the dispatcher holds its context with the deadline armed. -/
def State.matched (a : Actuator) (addr : Byte) (n : RecNo) (r : Record) (s : State) : State :=
  (((s.dropFromList a n).modRec n fun r => { r with state := a.atState }).offer a.src addr
    (.order (s.actOrder a r))).setDisp a (.acting ⟨n, r.serial, r.openSeq, afterSecs s.clock a.deadlineSecs⟩)

/-- R144, R148: a REFUSE offered and the dispatcher in REFUSING. -/
def State.refuse (a : Actuator) (addr : Byte) (field : List Byte) (s : State) : State :=
  (s.offer a.src addr (.order (.refuse (echoField field)))).setDisp a (.refusing (serialCut field))

/-- R148: an arrival that is not matched: refused, and a misrouted record held. -/
def State.unmatched (a : Actuator) (addr : Byte) (field serial : List Byte) (s : State) : State :=
  match s.onList a.other serial with
  | some n => ((s.dropFromList a.other n).holdRec n .misroute).refuse a addr field
  | none => (s.refuse a addr field).ignored

/-- R145, R148: an admitted arrival of a well-formed serial. -/
def State.arrivalOf (a : Actuator) (addr : Byte) (field serial : List Byte) (s : State) : State :=
  match s.onList a serial with
  | some n =>
    let s1 := (ahead n (s.dispatch.list a)).foldl (State.passBy a) s
    match s1.getRec n with
    | some r => s1.matched a addr n r
    | none => s1
  | none => s.unmatched a addr field serial

/-- R144, with the length check of R194 before it: an arrival TAG from an actuator's address. -/
def State.arrival (a : Actuator) (addr : Byte) (p : List Byte) (s : State) : State × Bool :=
  match tagFields p with
  | none => (s.ignored, true)
  | some t =>
    if s.dispatch.gate = .gateClosed then (s, false)
    else if s.dispatch.disp a ≠ .idle then (s, false)
    else
      match serialOf t.field with
      | none => ((s.refuse a addr t.field).ignored, true)
      | some serial => (s.arrivalOf a addr t.field serial, true)

/-! ## DONE frames and deadlines (R150, R151) -/

/-- R150: a DONE from an actuator's address. -/
def State.doneFrame (a : Actuator) (p : List Byte) (s : State) : State :=
  match doneFields p, s.dispatch.disp a with
  | some (field, result), .acting c =>
    if serialOf field = some c.serial then
      if result = 1 then (s.closeRec c.record a.doneState).setDisp a .idle
      else if result = 2 then (s.holdRec c.record a.faultReason).setDisp a .idle
      else s.ignored
    else s.ignored
  | _, _ => s.ignored

/-- R151: the order in flight cannot be confirmed: the record held, the actuator offline, the dispatcher IDLE. -/
def State.unconfirmed (a : Actuator) (c : InFlight) (s : State) : State :=
  ((s.holdRec c.record a.unconfirmedReason).setOffline a true).setDisp a .idle

/-- R151: the stamp or condemn deadline. -/
def State.actExpiry (a : Actuator) (s : State) : State :=
  match s.dispatch.disp a with
  | .acting c => if reached s.clock c.deadline then s.unconfirmed a c else s
  | _ => s

/-! ## Outcome reports to the dispatchers (R138, R139, R149, R151, R155) -/

/-- R151: an order to an actuator is the STAMP or the CONDEMN that a context's record was ordered with (log entry 13). -/
def Order.actsFor (o : Order) (a : Actuator) (c : InFlight) : Bool :=
  match a, o with
  | .press, .stamp sr _ _ _ => sr == c.serial
  | .scrapCell, .condemn sr _ => sr == c.serial
  | _, _ => false

/-- R149: an order is a REFUSE. -/
def Order.isRefuse : Order → Bool
  | .refuse _ => true
  | _ => false

/-- R149, R151, R155: the report of an order's outcome to the Mark or the Scrap Dispatcher. -/
def State.actReport (a : Actuator) (o : Order) (taken : Bool) (s : State) : State :=
  if s.dispatch.stale a then s.updDispatch (·.setStale a false)
  else
    match s.dispatch.disp a with
    | .idle => s
    | .refusing _ =>
      if o.isRefuse then (if taken then s else s.setOffline a true).setDisp a .idle else s
    | .acting c => if taken = false ∧ o.actsFor a c then s.unconfirmed a c else s

/-- R139, step 3: the record of a failed ROUTE order, still the record it was given for and still pending, leaves its list
for HOLD. -/
def State.unrouted (e : RouteEntry) (s : State) : State :=
  match e.record with
  | none => s
  | some (n, seq) =>
    match s.getRec n with
    | none => s
    | some r =>
      if r.openSeq = seq then
        if r.state = .markPending then (s.dropFromList .press n).holdRec n .routeUnconfirmed
        else if r.state = .scrapPending then (s.dropFromList .scrapCell n).holdRec n .routeUnconfirmed
        else s
      else s

/-- R138, R139: the head entry removed and the Route Dispatcher in IDLE. -/
def State.popRoute (s : State) : State :=
  s.updDispatch fun d => { d with routes := d.routes.drop 1, routeD := .idle }

/-- R138, R139, R155: the report of a ROUTE order's outcome. -/
def State.routeReport (taken : Bool) (s : State) : State :=
  if s.dispatch.routeStale then s.updDispatch fun d => { d with routeStale := false }
  else
    match s.dispatch.routeD, s.dispatch.routes with
    | .sending, e :: _ =>
      if taken then s.popRoute
      else ((s.updDispatch fun d => { d with diverterOffline := true }).unrouted e).popRoute
    | .sending, [] => s.popRoute
    | .idle, _ => s

/-! ## Offline flags (R134) -/

/-- R134, R140, R159: a valid frame's source clears the offline flag of the role its address holds, and the diverter has
been heard from. -/
def State.clearOffline (addr : Byte) (s : State) : State :=
  match s.roleOf addr with
  | .markingPress => s.setOffline .press false
  | .scrapCell => s.setOffline .scrapCell false
  | .diverter => s.updDispatch fun d => { d with diverterOffline := false, diverterHeard := true }
  | _ => s

end Sys2Proof.Machine
end

