-- ==== Sys2Proof/Machine/Requests.lean ====
section
/-!
DEFINITION. The requests (chapter 9, with the banks' own rules of chapter 1 and the stations' of chapter 4). Each request is
served by an operation that takes its argument bytes and answers a status, the results of a DONE and the state after it.
-/

namespace Sys2Proof.Machine

/-- What serving a request answers: the status, the results that follow a DONE, and the state. -/
structure Answer where
  status : Status
  results : List Byte
  state : State
  deriving DecidableEq, Repr

/-- R178: a request refused with a status changes nothing. -/
def refuseWith (st : Status) (s : State) : Answer := ⟨st, [], s⟩

/-- A request carried out, with its results. -/
def doneWith (results : List Byte) (s : State) : Answer := ⟨.done, results, s⟩

/-! ## Type banks (R6 to R10, R16, R17) -/

/-- R6: a value brought to the nearer end of its range. -/
def clamp (lo hi x : Nat) : Nat := min (max x lo) hi

/-- R6: a type entry as offered with its valid mark set, every field outside a range that clamps stored clamped. -/
def TypeEntry.clamped (e : TypeEntry) : TypeEntry :=
  { e with
    band := min e.band (e.pt / 10)
    permLimit := min e.permLimit 200
    steps := clamp 1 16 e.steps
    stepTimeout := clamp 5 120 e.stepTimeout
    zeroTimeout := clamp 5 120 e.zeroTimeout
    holdTime := clamp 10 600 e.holdTime
    stabBand := clamp 1 255 e.stabBand
    window := clamp 3 16 e.window
    maxExtension := min e.maxExtension 120
    ventTimeout := clamp 5 120 e.ventTimeout
    settleTime := clamp 5 300 e.settleTime
    retestLimit := min e.retestLimit 3
    tareLossLimit := min e.tareLossLimit 200
    serviceLife := min e.serviceLife 99 }

/-- A bit of a clamp indication: set where the stored value differs from the offered one. -/
def clampBit (k offered stored : Nat) : Nat := if offered = stored then 0 else 2 ^ k

/-- R8, R197: the clamp indication of a type entry write, bit n for the field the layout gives bit n. -/
def clampIndication (o e : TypeEntry) : Nat :=
  clampBit 0 o.band e.band + clampBit 1 o.permLimit e.permLimit + clampBit 2 o.steps e.steps
    + clampBit 3 o.stepTimeout e.stepTimeout + clampBit 4 o.zeroTimeout e.zeroTimeout + clampBit 5 o.holdTime e.holdTime
    + clampBit 6 o.stabBand e.stabBand + clampBit 7 o.window e.window + clampBit 9 o.maxExtension e.maxExtension
    + clampBit 10 o.ventTimeout e.ventTimeout + clampBit 11 o.settleTime e.settleTime
    + clampBit 12 o.retestLimit e.retestLimit + clampBit 13 o.tareLossLimit e.tareLossLimit
    + clampBit 14 o.serviceLife e.serviceLife

/-- R8, step 3: an offered entry that is refused with BAD VALUE. -/
def TypeEntry.refused (e : TypeEntry) : Bool := e.pt < 1000 || 60000 < e.pt || e.ree == 0 || e.permLimit == 0

def State.setBank (k : BankId) (x : Bank) (s : State) : State := s.updBanks fun t => t.set k x

def Bank.putType (c : TypeCode) (e : TypeEntry) (x : Bank) : Bank :=
  { x with typeTable := x.typeTable.set c.val e c.isLt }

def Bank.putMatch (i : Fin 64) (m : MatchEntry) (x : Bank) : Bank :=
  { x with matchTable := x.matchTable.set i.val m i.isLt }

/-- R8, R9, step 2: the status that the state of a bank refuses a write with. -/
def BankState.writeRefusal : BankState → Option Status
  | .active => some .wrongBank
  | .retiring => some .busy
  | .standby => none

/-- R10: READ TYPE ENTRY. -/
def readType (args : List Byte) (s : State) : Answer :=
  match bankOf (byteAt args 0), indexOf 64 (byteAt args 1) with
  | some k, some c => doneWith (s.banks.get k).typeTable[c].bytes s
  | _, _ => refuseWith .badIndex s

/-- R10: READ MATCH ENTRY. -/
def readMatch (args : List Byte) (s : State) : Answer :=
  match bankOf (byteAt args 0), indexOf 64 (byteAt args 1) with
  | some k, some i => doneWith (s.banks.get k).matchTable[i].bytes s
  | _, _ => refuseWith .badIndex s

/-- R7, R8: WRITE TYPE ENTRY. -/
def writeType (args : List Byte) (s : State) : Answer :=
  match bankOf (byteAt args 0), indexOf 64 (byteAt args 1) with
  | some k, some c =>
    match (s.banks.get k).state.writeRefusal with
    | some st => refuseWith st s
    | none =>
      let o := typeEntryAt args 2
      if o.valid then
        if o.refused then refuseWith .badValue s
        else doneWith (beBytes 3 (clampIndication o o.clamped)) (s.setBank k ((s.banks.get k).putType c o.clamped))
      else doneWith (beBytes 3 0) (s.setBank k ((s.banks.get k).putType c TypeEntry.invalid))
  | _, _ => refuseWith .badIndex s

/-- R3, R9: the match entry that 10 argument bytes offer, for a type code in range. -/
def matchEntryOf (args : List Byte) (code : TypeCode) : MatchEntry :=
  ⟨true, word16At args 3, word16At args 5, word16At args 7, word16At args 9, code⟩

/-- R7, R9: WRITE MATCH ENTRY. -/
def writeMatch (args : List Byte) (s : State) : Answer :=
  match bankOf (byteAt args 0), indexOf 64 (byteAt args 1) with
  | some k, some i =>
    match (s.banks.get k).state.writeRefusal with
    | some st => refuseWith st s
    | none =>
      if validMark (byteAt args 2) then
        match indexOf 64 (byteAt args 11) with
        | some code => doneWith [] (s.setBank k ((s.banks.get k).putMatch i (matchEntryOf args code)))
        | none => refuseWith .badValue s
      else doneWith [] (s.setBank k ((s.banks.get k).putMatch i MatchEntry.invalid))
  | _, _ => refuseWith .badIndex s

/-- R16: COPY ACTIVE TO STANDBY. -/
def copyBank (s : State) : Answer :=
  let k := s.banks.activeId
  let src := s.banks.get k
  let dst := s.banks.get k.other
  if dst.state = .retiring then refuseWith .busy s
  else doneWith [] (s.setBank k.other { dst with matchTable := src.matchTable, typeTable := src.typeTable })

/-- R17: a bank holds a valid type entry. -/
def Bank.hasType (x : Bank) : Bool := x.typeTable.toList.any (·.valid)

/-- R12, R17: ACTIVATE STANDBY. -/
def activate (s : State) : Answer :=
  let k := s.banks.activeId
  let old := s.banks.get k
  let new := s.banks.get k.other
  if new.state = .retiring then refuseWith .busy s
  else if new.hasType then
    doneWith [k.other.code, old.gen + 1]
      ((s.setBank k { old with state := if 0 < old.refs then .retiring else .standby }).setBank k.other
        { new with state := .active, gen := old.gen + 1 })
  else refuseWith .emptyBank s

/-- R10, R197: the five bytes of one bank in a READ BANK STATUS reply. -/
def Bank.statusBytes (x : Bank) : List Byte :=
  [x.state.code, x.gen, byteOf x.refs, byteOf (x.matchTable.toList.countP (·.valid)),
    byteOf (x.typeTable.toList.countP (·.valid))]

/-- R10: READ BANK STATUS. -/
def bankStatus (s : State) : Answer := doneWith (s.banks.a.statusBytes ++ s.banks.b.statusBytes) s

/-! ## Unit roles (R180) -/

/-- R180: READ UNIT ROLE. -/
def readRole (args : List Byte) (s : State) : Answer :=
  match unitIndex (byteAt args 0) with
  | some i => doneWith [s.roles[i].code] s
  | none => refuseWith .badIndex s

/-- R63, R180: a unit address of a Station Table entry. -/
def State.isStationAddr (s : State) (addr : Byte) : Bool := (s.stationAt addr).isSome

/-- R180, step 3: a role that at most one address holds. -/
def Role.unique : Role → Bool
  | .markingPress => true
  | .scrapCell => true
  | .diverter => true
  | _ => false

/-- R180, step 3: another address holds a role. -/
def State.heldElsewhere (s : State) (r : Role) (i : Fin 62) : Bool :=
  (List.finRange 62).any fun j => j != i && s.roles[j] == r

/-- R180, step 4: the dispatcher of a role has an order in flight. -/
def State.roleBusy (s : State) : Role → Bool
  | .markingPress => s.dispatch.markD != .idle
  | .scrapCell => s.dispatch.scrapD != .idle
  | .diverter => s.dispatch.routeD != .idle
  | _ => false

/-- R140, R180: a role written. Where the write gives an address the DIVERTER role or takes it away, no frame has yet been
heard from the role's holder; the offline flags are left as they were (R134). -/
def State.setRole (i : Fin 62) (r : Role) (s : State) : State :=
  { s with
    roles := s.roles.set i.val r i.isLt
    dispatch := { s.dispatch with
      diverterHeard := s.dispatch.diverterHeard && ((r == .diverter) == (s.roles[i] == .diverter)) } }

/-- R180: WRITE UNIT ROLE. -/
def writeRole (args : List Byte) (s : State) : Answer :=
  let addr := byteAt args 0
  match unitIndex addr with
  | none => refuseWith .badIndex s
  | some i =>
    match roleOfCode (byteAt args 1) with
    | none => refuseWith .badValue s
    | some r =>
      if r ≠ .unassigned ∧ (addr = s.mgmt.latched.own ∨ addr = s.mgmt.latched.supervisor ∨ s.isStationAddr addr) then
        refuseWith .badValue s
      else if r.unique ∧ s.heldElsewhere r i then refuseWith .badValue s
      else if r ≠ s.roles[i] ∧ s.roleBusy s.roles[i] then refuseWith .busy s
      else doneWith [] (s.setRole i r)

/-! ## Stations (R63, R81 to R83) -/

/-- R63: READ STATION ENTRY. -/
def readStation (args : List Byte) (s : State) : Answer :=
  match indexOf 8 (byteAt args 0) with
  | some i => doneWith ((s.station i).bytes s.clock ((s.testRec i).map fun x => x.2.serial)) s
  | none => refuseWith .badIndex s

/-- R63, step 4: the unit address of another Station Table entry. -/
def State.stationElsewhere (s : State) (addr : Byte) (i : StationNo) : Bool :=
  (List.finRange 8).any fun j => j != i && (s.station j).cfg.addr == addr

/-- R63: WRITE STATION ENTRY. -/
def writeStation (args : List Byte) (s : State) : Answer :=
  match indexOf 8 (byteAt args 0) with
  | none => refuseWith .badIndex s
  | some i =>
    let addr := byteAt args 1
    let k := num16At args 2
    let period := num16At args 4
    let silence := (byteAt args 6).toNat
    if (s.station i).state ≠ .outOfService then refuseWith .busy s
    else if addr = 0 then doneWith [0] (s.updStation i fun st => { st with cfg := ⟨0, 0, 0, 0⟩ })
    else if 62 < addr.toNat ∨ addr = s.mgmt.latched.own ∨ addr = s.mgmt.latched.supervisor ∨ s.stationElsewhere addr i
        ∨ s.roleOf addr ≠ .unassigned ∨ 4095 < k then
      refuseWith .badValue s
    else
      let c : StationConfig := ⟨addr, k, clamp 100 2000 period, clamp 1 30 silence⟩
      doneWith [byteOf (clampBit 0 period c.period + clampBit 1 silence c.silence)]
        (s.updStation i fun st => { st with cfg := c })

/-- R82: a station taken out of service. In SEATED..SETTLING a test in progress ends with reason ABORTED and the station
takes the steps of the ordinary abort path, which are those of R82's table; one venting without a test keeps venting. In
RESYNC with the leaving-service flag still set the table's row is followed, not the text's "changes nothing" (log entry 27). -/
def State.takeOut (i : StationNo) (s : State) : State :=
  let leave (s : State) : State := s.updStation i fun st => { st with leaving := true }
  match (s.station i).state with
  | .outOfService => s
  | .vacant => s.updStation i (·.emptied .outOfService)
  | .faulted => s.updStation i (·.emptied .outOfService)
  | .resync => s.updStation i (·.emptied .outOfService)
  | .releasing => leave s
  | _ => leave (s.abortTest i .aborted)

/-- R76, R81, R83: the context emptied, the station in VACANT, its last frame time the clock value of the request. -/
def State.vacantNow (i : StationNo) (s : State) : State :=
  s.updStation i fun st => { st.emptied .vacant with lastFrame := s.clock }

/-- R81: SET STATION SERVICE in. -/
def serviceIn (index : Byte) (s : State) : Answer :=
  match indexOf 8 index with
  | none => refuseWith .badIndex s
  | some i =>
    if s.mgmt.latched.enabled ≤ i.val then refuseWith .badIndex s
    else if (s.station i).cfg.addr = 0 then refuseWith .notReady s
    else if (s.station i).state = .outOfService then doneWith [StState.vacant.code] (s.vacantNow i)
    else doneWith [(s.station i).state.code] s

/-- R82: SET STATION SERVICE out; the reply carries the state entered. -/
def serviceOut (index : Byte) (s : State) : Answer :=
  match indexOf 8 index with
  | none => refuseWith .badIndex s
  | some i => doneWith [((s.takeOut i).station i).state.code] (s.takeOut i)

/-- R81, R82, R194: SET STATION SERVICE by its service value; an unknown value is answered BAD VALUE. Where the index lies
outside 0..7 too, which status answers is left open (log entry 28). -/
def setService (args : List Byte) (s : State) : Answer :=
  if byteAt args 1 = 1 then serviceIn (byteAt args 0) s
  else if byteAt args 1 = 0 then serviceOut (byteAt args 0) s
  else
    refuseWith (if (byteAt args 0).toNat < 8 ∨ Sys2Proof.Config.serviceIsCheckedFirst then .badValue else .badIndex) s

/-- R83: CLEAR STATION FAULT. -/
def clearFault (args : List Byte) (s : State) : Answer :=
  match indexOf 8 (byteAt args 0) with
  | none => refuseWith .badIndex s
  | some i =>
    match (s.station i).state with
    | .faulted => doneWith [StState.vacant.code] (s.vacantNow i)
    | .resync => doneWith [StState.vacant.code] (s.vacantNow i)
    | .vacant => doneWith [StState.vacant.code] s
    | .outOfService => doneWith [StState.outOfService.code] s
    | _ => refuseWith .busy s

/-! ## Records (R43, R179, R198) -/

/-- R43, R179: the record number that a selector, a number and a serial field name, or the status that refuses the name. -/
def State.nameRecord (s : State) (selector number : Byte) (field : List Byte) : Except Status RecNo :=
  if selector = 0 then
    match indexOf 128 number with
    | none => .error .badIndex
    | some n => if (s.getRec n).isSome then .ok n else .error .absent
  else if selector = 1 then
    match serialOf field with
    | none => .error .badValue
    | some serial =>
      match s.findSerial serial with
      | none => .error .absent
      | some n => .ok n
  else .error .badValue

/-- R179: the station that holds a record ON TEST. -/
def State.stationOf (s : State) (n : RecNo) : Option StationNo :=
  (List.finRange 8).find? fun i => (s.station i).record == some n

/-- R198: the part of a record that a READ RECORD reply carries. -/
def State.recordPart (s : State) (n : RecNo) (r : Record) (part : Byte) : List Byte :=
  if part = 1 then r.part1 n (if r.state = .onTest then s.stationOf n else none) else r.part2 n

/-- R179, R198: READ RECORD. Where both the part and the name are refused, which status answers is left open (log
entry 6). -/
def readRecord (args : List Byte) (s : State) : Answer :=
  let part := byteAt args 1
  let badPart : Bool := part != 1 && part != 2
  match s.nameRecord (byteAt args 0) (byteAt args 2) ((args.drop 3).take 17) with
  | .error st =>
    if badPart then refuseWith (if Sys2Proof.Config.partIsCheckedFirst then .badValue else st) s else refuseWith st s
  | .ok n =>
    if badPart then refuseWith .badValue s
    else
      match s.getRec n with
      | some r => doneWith (s.recordPart n r part) s
      | none => refuseWith .absent s

/-- R43: REMOVE RECORD. -/
def removeRecord (args : List Byte) (s : State) : Answer :=
  match s.nameRecord (byteAt args 0) (byteAt args 1) ((args.drop 2).take 17) with
  | .error st => refuseWith st s
  | .ok n =>
    match s.getRec n with
    | none => refuseWith .absent s
    | some r => if r.state = .hold ∨ r.state.isClosed then doneWith [] (s.freeRec n) else refuseWith .busy s

/-! ## Calendar, gate, tallies, options (R141, R181, R183, R187, R188) -/

/-- R181: SET CALENDAR. -/
def setCalendar (args : List Byte) (s : State) : Answer :=
  let month := (byteAt args 0).toNat
  let year := num16At args 1
  if 1 ≤ month ∧ month ≤ 12 ∧ 2000 ≤ year ∧ year ≤ 2099 then
    doneWith (byteOf month :: beBytes 2 year) (s.updMgmt fun m => { m with calendar := some ⟨month, year⟩ })
  else refuseWith .badValue s

/-- R141: the latched mark is four spaces. -/
def RetesterMark.blank (m : RetesterMark) : Bool := m == ⟨0x20, 0x20, 0x20, 0x20⟩

def State.setGate (g : Gate) (s : State) : State := s.updDispatch fun d => { d with gate := g }

/-- R141: GATE OPEN. -/
def openGate (s : State) : Answer :=
  if s.mgmt.calendar = none ∨ s.mgmt.latched.mark.blank then refuseWith .notReady s
  else doneWith [Gate.gateOpen.code] (s.setGate .gateOpen)

/-- R141: GATE CLOSE. -/
def closeGate (s : State) : Answer := doneWith [Gate.gateClosed.code] (s.setGate .gateClosed)

/-- R183, R199: READ TALLIES by its action and group. -/
def readTallies (args : List Byte) (s : State) : Answer :=
  let t := s.mgmt.tallies
  let set (t' : Tallies) : State := s.updMgmt fun m => { m with tallies := t' }
  match (byteAt args 0).toNat, (byteAt args 1).toNat with
  | 0, 1 => doneWith (tallyBytes t.group1) s
  | 0, 2 => doneWith (tallyBytes t.group2) s
  | 1, 1 => doneWith (tallyBytes t.group1) (set t.clear1)
  | 1, 2 => doneWith (tallyBytes t.group2) (set t.clear2)
  | _, _ => refuseWith .badValue s

/-- R188: the stored values that READ OPTIONS reports: the factory values while the store holds none that pass. -/
def OptionStore.reported : OptionStore → Options
  | .holds o => o
  | _ => Options.factory

/-- R188, R197: READ OPTIONS; month and year 0 while the Calendar is unset (log entry 17). -/
def readOptions (s : State) : Answer :=
  doneWith (s.mgmt.store.reported.bytes ++ [flagByte s.mgmt.storeSound] ++ s.mgmt.latched.bytes
    ++ (match s.mgmt.calendar with
        | none => [0, 0, 0]
        | some c => byteOf c.month :: beBytes 2 c.year)
    ++ [s.dispatch.gate.code]) s

/-! ## Line reset (R189) -/

/-- R19: a bank at a line reset. -/
def Bank.lineReset (x : Bank) : Bank :=
  { x with refs := 0, state := if x.state = .retiring then .standby else x.state }

/-- R84: a station at a line reset. -/
def Station.lineReset (st : Station) : Station :=
  if st.state.watched then st.resynced
  else if st.state = .vacant then { st with sealPending := false }
  else st

/-- R84, R85: an ABORT offered to every station in RESYNC, in ascending order. -/
def State.abortResync (s : State) : State :=
  (List.finRange 8).foldl (fun s i => if (s.station i).state = .resync then s.orderStation i .abort else s) s

/-- R155: a source has an order queued or on the ring. -/
def RingPort.busy (p : RingPort) (k : Src) : Bool := (p.source k).cond != .free

/-- R155: the Dispatch Unit at a line reset. -/
def DispatchUnit.lineReset (p : RingPort) (d : DispatchUnit) : DispatchUnit :=
  { d with
    markList := [], scrapList := [], routes := [], routeD := .idle, markD := .idle, scrapD := .idle, gate := .gateClosed,
    routeStale := d.routeStale || p.busy .route, markStale := d.markStale || p.busy .mark,
    scrapStale := d.scrapStale || p.busy .scrap }

/-- R21, R44: the Record Table at a line reset: every number free, the Closed List empty, the open count kept. -/
def RecordTable.lineReset (t : RecordTable) : RecordTable :=
  { t with table := Vector.replicate 128 none, closed := [] }

/-- R189: every block's line-reset rule, before the reply. -/
def State.lineReset (s : State) : State :=
  { s with
    banks := ⟨s.banks.a.lineReset, s.banks.b.lineReset⟩
    records := s.records.lineReset
    stations := s.stations.map Station.lineReset
    dispatch := s.dispatch.lineReset s.port
    port := ((s.port.emptySlot .mark).emptySlot .scrap).emptySlot .route : State }.abortResync

/-! ## Admission and service (R176, R177) -/

/-- R197: the number of argument bytes of a request code; none for a code that names no request. -/
def argLength (code : Byte) : Option Nat :=
  match code.toNat with
  | 1 => some 2
  | 2 => some 29
  | 3 => some 2
  | 4 => some 12
  | 5 => some 0
  | 6 => some 0
  | 7 => some 0
  | 8 => some 1
  | 9 => some 2
  | 10 => some 1
  | 11 => some 7
  | 12 => some 2
  | 13 => some 1
  | 14 => some 20
  | 15 => some 19
  | 16 => some 3
  | 17 => some 0
  | 18 => some 0
  | 19 => some 2
  | 20 => some 0
  | 21 => some 8
  | 22 => some 0
  | _ => none

/-- R179 to R189: the request of a code carried out; WRITE OPTIONS (21) with a value it refuses. -/
def serve (code : Byte) (args : List Byte) (s : State) : Answer :=
  match code.toNat with
  | 1 => readType args s
  | 2 => writeType args s
  | 3 => readMatch args s
  | 4 => writeMatch args s
  | 5 => copyBank s
  | 6 => activate s
  | 7 => bankStatus s
  | 8 => readRole args s
  | 9 => writeRole args s
  | 10 => readStation args s
  | 11 => writeStation args s
  | 12 => setService args s
  | 13 => clearFault args s
  | 14 => readRecord args s
  | 15 => removeRecord args s
  | 16 => setCalendar args s
  | 17 => openGate s
  | 18 => closeGate s
  | 19 => readTallies args s
  | 20 => readOptions s
  | 21 => refuseWith .badValue s
  | 22 => doneWith [] s.lineReset
  | _ => refuseWith .unknownRequest s

/-- R175: a REPLY offered and the Responder in REPLY PENDING. -/
def State.reply (dst tag code : Byte) (st : Status) (results : List Byte) (s : State) : State :=
  (s.offer .reply dst (.reply ⟨tag, code, st, results⟩)).updMgmt fun m => { m with responder := .replyPending }

/-- R174, R175: an answer sent as the reply of its event; a lane order offered in the same event joins before it. -/
def State.answer (dst tag code : Byte) (a : Answer) : State := a.state.pumpRoute.reply dst tag code a.status a.results

/-- R187: WRITE OPTIONS with five values in range: the write begins. -/
def State.beginWrite (dst tag : Byte) (o : Options) (s : State) : State :=
  s.updMgmt fun m => { m with responder := .working ⟨o, dst, tag, false⟩ }

/-- R176, steps 3 to 5: a request from the supervisor. -/
def State.serveRequest (dst tag code : Byte) (args : List Byte) (s : State) : State :=
  match argLength code with
  | none => State.answer dst tag code (refuseWith .unknownRequest s)
  | some n =>
    if args.length = n then
      match code.toNat, optionsOf args with
      | 21, some o => s.beginWrite dst tag o
      | _, _ => State.answer dst tag code (serve code args s)
    else State.answer dst tag code (refuseWith .badValue s)

/-- R176: a REQUEST frame: the state after it and whether it is taken. -/
def State.request (src : Byte) (p : List Byte) (s : State) : State × Bool :=
  if s.mgmt.responder ≠ .idle then (s, false)
  else
    match p with
    | tag :: code :: args =>
      if src = s.mgmt.latched.supervisor then (s.serveRequest src tag code args, true)
      else (State.answer src tag code (refuseWith .notPermitted s), true)
    | _ => (s.ignored, true)

/-- R187, R190: the completion of the Option Store write. -/
def State.writeComplete (s : State) : State :=
  match s.mgmt.responder with
  | .working w =>
    let s1 := s.updMgmt fun m => { m with store := .holds w.options, responder := .idle }
    if w.cancelled then s1 else s1.reply w.dst w.tag 21 .done [0]
  | _ => s

end Sys2Proof.Machine
end

