-- ==== Sys2Proof/Machine/Port.lean ====
section
/-!
DEFINITION. The Ring Port (chapter 8): the Transit Buffer, reception and classification, the Transmit Arbiter, the Return
Check, and the Ring Monitor going DOWN and UP.
-/

namespace Sys2Proof.Machine

/-! ## The Transit Buffer (R158) -/

/-- R158: a place of the buffer whose frame is still arriving. -/
def Place.isArriving : Place → Bool
  | .arriving => true
  | _ => false

/-- R170: the time of the latest line activity is now. -/
def State.active (s : State) : State := s.updPort fun p => { p with lastActivity := s.clock }

/-- R158, R170: a frame lost because all four places are held. -/
def State.overrun (s : State) : State := (s.tally .overruns).active

/-- R158: a frame begins to arrive: it takes a place, or it is a transit overrun. -/
def State.beginArrival (s : State) : State :=
  if s.port.transit.length < 4 then s.updPort fun p => { p with transit := p.transit ++ [.arriving] } else s.overrun

/-- R158: a frame that completes its arrival gives up the place it arrived in, to be taken again when it is to be
forwarded; the first frame arriving is the one that completes. A frame whose beginning was not commanded begins in the
same event, which needs a free place (log entry 8). -/
def takePlace (t : List Place) : Option (List Place) :=
  if t.any Place.isArriving then some (t.eraseP Place.isArriving)
  else if t.length < 4 then some t
  else none

/-- R160, R193: a checked frame stored for forwarding, its taken mark set where its owner took it. -/
def State.store (f : Frame) (taken : Bool) (s : State) : State :=
  s.updPort fun p => { p with transit := p.transit ++ [.stored (if taken then f.mark else f)] }

/-! ## The frames addressed to the part (R161) -/

/-- R64, R194: a frame of a station: its last frame time set unless it is OUT OF SERVICE, then handled by its kind. -/
def State.stationFrame (i : StationNo) (f : Frame) (s : State) : State :=
  let s1 :=
    if (s.station i).state = .outOfService then s
    else s.updStation i fun st => { st with lastFrame := s.clock }
  if f.kindOf = Kind.sample then
    match sampleFields f.payload with
    | some x => s1.sampleEvent i x
    | none => s1.ignored
  else if f.kindOf = Kind.stationEvent then
    match stationEvent f.payload with
    | some (.seated field) => s1.seatedEvent i field
    | some .sealFault => s1.sealFaultEvent i
    | some (.reached k) => s1.reachedEvent i k
    | some .vented => s1.ventedEvent i
    | some .released => s1.releasedEvent i
    | some .burst => s1.burstEvent i
    | none => s1.ignored
  else s1.ignored

/-- R32, R144, R161: a TAG, by the role of its source. -/
def State.tagFrame (r : Role) (f : Frame) (s : State) : State × Bool :=
  match r with
  | .intakeReader => s.intake f.payload
  | .markingPress => s.arrival .press f.src f.payload
  | .scrapCell => s.arrival .scrapCell f.src f.payload
  | _ => (s.ignored, true)

/-- R150, R152, R161: a DONE, by the role of its source. -/
def State.doneByRole (r : Role) (f : Frame) (s : State) : State :=
  match r with
  | .markingPress => s.doneFrame .press f.payload
  | .scrapCell => s.doneFrame .scrapCell f.payload
  | _ => s.ignored

/-- R161: the frames of a source that is no station and holds a role. -/
def State.roleFrame (r : Role) (f : Frame) (s : State) : State × Bool :=
  if r = .unassigned then (s.ignored, true)
  else if f.kindOf = Kind.tag then s.tagFrame r f
  else if f.kindOf = Kind.finding then (if r = .inspection then s.findingFrame f.payload else (s.ignored, true))
  else if f.kindOf = Kind.done then (s.doneByRole r f, true)
  else (s.ignored, true)

/-- R161: a frame addressed to the part handed to its owning block: the state after it and whether it is taken. -/
def State.handle (f : Frame) (s : State) : State × Bool :=
  if f.kindOf = Kind.request then s.request f.src f.payload
  else
    match s.stationAt f.src with
    | some i => (s.stationFrame i f, true)
    | none => s.roleFrame (s.roleOf f.src) f

/-! ## The Return Check (R166 to R169) -/

/-- R166: a returning frame is the frame in flight that carries its sequence number, kind and destination. -/
def Flight.matchedBy (x : Flight) (f : Frame) : Bool :=
  x.seq == f.seq && x.frame.body.kind == f.kindOf && x.frame.dst == f.dst

/-- R167, R168: the record of a frame leaves the list of frames in flight. -/
def State.dropFlight (x : Flight) (s : State) : State := s.updPort fun p => { p with flights := p.flights.erase x }

/-- R169, steps 1 and 2: a source becomes free, or queued again with the frame of its next-frame slot. -/
def RingPort.advance (k : Src) (p : RingPort) : RingPort :=
  match (p.source k).slot with
  | some q => { p.setSource k ⟨.queued, none⟩ with queue := p.queue ++ [q] }
  | none => p.setSource k ⟨.free, none⟩

/-- R169, step 3: a source told its frame's outcome: R80, R138, R139, R149 to R152, R177, R185. -/
def State.report (q : OwnFrame) (taken : Bool) (s : State) : State :=
  match q.src, q.body with
  | .station i, b => if taken then s else s.stationUnreachable i b
  | .mark, .order o => s.actReport .press o taken
  | .scrap, .order o => s.actReport .scrapCell o taken
  | .route, _ => s.routeReport taken
  | .reply, _ =>
    if s.mgmt.responder = .replyPending then s.updMgmt fun m => { m with responder := .idle } else s
  | .notice, _ => s.updMgmt fun m => { m with notices := m.notices.drop 1 }
  | _, _ => s

/-- R169: the outcome of a frame in flight is known. -/
def State.outcome (x : Flight) (taken : Bool) (s : State) : State :=
  ((s.dropFlight x).updPort (·.advance x.frame.src)).report x.frame taken

/-- R167: an own frame's kind is ORDER, which is sent again once. -/
def Body.isOrder : Body → Bool
  | .order _ => true
  | _ => false

/-- R167: an ORDER that has failed its first passage joins the Inject Queue again, its source queued; its record waits
with it (log entry 10). -/
def RingPort.reinject (q : OwnFrame) (p : RingPort) : RingPort :=
  { p.setSource q.src { p.source q.src with cond := .queued } with queue := p.queue ++ [{ q with reinjected := true }] }

/-- R167: a failed passage. -/
def State.failedPassage (x : Flight) (s : State) : State :=
  let s1 := s.tally .notTaken
  if x.frame.body.isOrder ∧ x.frame.reinjected = false then
    (s1.dropFlight x).updPort (·.reinject x.frame)
  else s1.outcome x false

/-- R166: an own frame taken off the ring. -/
def State.ownReturn (f : Frame) (s : State) : State :=
  match s.port.flights.find? fun x => x.matchedBy f with
  | none => s.ignored
  | some x => if f.taken then s.outcome x true else s.failedPassage x

/-- R168: the return deadline of the frame in flight with a sequence number. -/
def State.returnExpiry (seq : Byte) (s : State) : State :=
  match s.port.flights.find? fun x => x.seq == seq with
  | some x => if reached s.clock x.deadline then s.failedPassage x else s
  | none => s

/-! ## The Ring Monitor (R170 to R172) -/

/-- R172: the monitor goes UP, reported before the frame that brought it up is classified. -/
def State.ringUp (s : State) : State := (s.updPort fun p => { p with monitor := .up }).abortResync.endEvent

/-- R171: the frame being sent is completed, and the record of an own one is not kept. -/
def OutPair.orphaned : OutPair → OutPair
  | .own q wire _ => .own q wire true
  | x => x

/-- R170, R171: the Ring Port at ring loss. -/
def RingPort.loss (p : RingPort) : RingPort :=
  { p with
    monitor := .down, queue := [], sources := Vector.replicate 13 ⟨.free, none⟩, flights := [], row := 0,
    out := p.out.orphaned }

/-- R85: a station at ring loss. -/
def State.stationLoss (s : State) (i : StationNo) : State :=
  if (s.station i).state.watched then (s.endTest i .ringLoss).updStation i Station.resynced else s

/-- R156: the Mark or the Scrap Dispatcher at ring loss. -/
def State.actLoss (a : Actuator) (s : State) : State :=
  match s.dispatch.disp a with
  | .acting c => (s.holdRec c.record a.unconfirmedReason).setDisp a .idle
  | .refusing _ => s.setDisp a .idle
  | .idle => s

/-- R156: the Dispatch Unit at ring loss. -/
def State.dispatchLoss (s : State) : State :=
  ((s.actLoss .press).actLoss .scrapCell).updDispatch fun d =>
    { d with routeD := .idle, routeStale := false, markStale := false, scrapStale := false }

/-- R190: the Responder at ring loss. -/
def Responder.loss : Responder → Responder
  | .working w => .working { w with cancelled := true }
  | _ => .idle

/-- R186, R190: the Management Responder at ring loss: the Notice FIFO emptied, each notice counted as dropped. -/
def State.mgmtLoss (s : State) : State :=
  (s.tallyBy .dropped s.mgmt.notices.length).updMgmt fun m => { m with notices := [], responder := m.responder.loss }

/-- R171: every block at ring loss. -/
def State.lose (s : State) : State :=
  ((List.finRange 8).foldl State.stationLoss (s.updPort RingPort.loss)).dispatchLoss.mgmtLoss

/-- R170: 20 ms of the Line Clock have passed since the latest line activity, the monitor being UP. -/
def State.lineSilent (s : State) : Bool :=
  s.port.monitor == .up && reached s.clock (afterMs s.port.lastActivity 20)

/-! ## Reception (R159, R160) -/

/-- R159: a frame that fails its check is dropped and counted; it is line activity that does not bring the ring UP. -/
def State.checkFailed (s : State) : State := (s.tally .checkFailures).active

/-- R160: a valid frame classified, and forwarded where it is not the part's own. -/
def State.classify (f : Frame) (s : State) : State :=
  if f.src = s.mgmt.latched.own then s.ownReturn f
  else if f.dst = s.mgmt.latched.own then ((s.handle f).1).store f (s.handle f).2
  else s.store f false

/-- R159, R170, R172: a valid frame: line activity, the monitor brought UP, the source's offline flag cleared, then the
classification, and the end of its event. -/
def State.validFrame (f : Frame) (s : State) : State :=
  let s1 := s.active
  let s2 := if s1.port.monitor = .down then s1.ringUp else s1
  ((s2.clearOffline f.src).classify f).endEvent

/-- R158, R159: a frame whose last byte has arrived; none where the bytes received are no frame. -/
def State.arrive (f : Option Frame) (s : State) : State :=
  match takePlace s.port.transit with
  | none => s.overrun
  | some places =>
    let s1 := (s.updPort fun p => { p with transit := places }).tally .received
    match f with
    | some f => if f.passes then s1.validFrame f else s1.checkFailed
    | none => s1.checkFailed

/-! ## The Transmit Arbiter (R164, R165) -/

/-- R165: the oldest transit frame that is stored and checked. -/
def storedFrame : List Place → Option Frame
  | [] => none
  | .stored f :: _ => some f
  | _ :: t => storedFrame t

/-- R165: the place of the oldest stored frame, now being sent; the place is held until the frame has been forwarded. -/
def markLeaving : List Place → List Place
  | [] => []
  | .stored f :: t => .leaving f :: t
  | x :: t => x :: markLeaving t

/-- R158: the place of a forwarded frame freed. -/
def dropLeaving : List Place → List Place
  | [] => []
  | .leaving _ :: t => t
  | x :: t => x :: dropLeaving t

/-- R165: the OUT pair given to a transit frame, with the count after the choice. -/
def RingPort.sendTransit (f : Frame) (row : Nat) (p : RingPort) : RingPort :=
  { p with out := .transit f, transit := markLeaving p.transit, row := row }

/-- R164, R165: the OUT pair given to the head of the Inject Queue. -/
def RingPort.sendOwn (own : Byte) (q : OwnFrame) (rest : List OwnFrame) (p : RingPort) : RingPort :=
  { p with out := .own q (q.wire own p.nextSeq) false, queue := rest, nextSeq := p.nextSeq + 1, row := 0 }

/-- R165: the Transmit Arbiter's choice when the OUT pair is free. -/
def RingPort.arbitrate (own : Byte) (p : RingPort) : RingPort :=
  match storedFrame p.transit, p.queue with
  | some f, [] => p.sendTransit f 0
  | some f, q :: rest => if p.row < 4 then p.sendTransit f (p.row + 1) else p.sendOwn own q rest
  | none, q :: rest => p.sendOwn own q rest
  | none, [] => { p with row := 0 }

/-- R165: the arbiter gives the OUT pair only when it is free. -/
def State.arbitrate (s : State) : State :=
  match s.port.out with
  | .idle => s.updPort (·.arbitrate s.mgmt.latched.own)
  | _ => s

/-- R164, R171: the last byte of an own frame has left the OUT pair: its source is on the ring and the frame in flight,
unless the ring was lost while it was being sent. -/
def RingPort.sent (c : Clock) (p : RingPort) : RingPort :=
  match p.out with
  | .own q wire false =>
    { p.setSource q.src { p.source q.src with cond := .onRing } with
      out := .idle, flights := p.flights ++ [⟨wire.seq, q, afterMs c 100⟩] }
  | .own _ _ true => { p with out := .idle }
  | _ => p

/-- R158: the last byte of a forwarded transit frame has left the OUT pair. -/
def RingPort.forwarded (p : RingPort) : RingPort :=
  match p.out with
  | .transit _ => { p with out := .idle, transit := dropLeaving p.transit }
  | _ => p

/-! ## Power-on reset (R188) -/

/-- R188: the Option Store as a power-on reset finds it: a write cut short leaves the old values or the new ones, which
the manual leaves open (log entry 4). -/
def State.storeAtPowerOn (s : State) : OptionStore :=
  match s.mgmt.responder with
  | .working w => if Sys2Proof.Config.cutWriteLeavesNew s.cuts then .holds w.options else s.mgmt.store
  | _ => s.mgmt.store

/-- The model's count of writes cut short (log entry 4). -/
def State.cutsAfter (s : State) : Nat :=
  match s.mgmt.responder with
  | .working _ => s.cuts + 1
  | _ => s.cuts

/-- R188: the options that a power-on reset latches from a store, and whether the store passed its check. -/
def OptionStore.latch : OptionStore → Options × Bool
  | .holds o => (o, true)
  | _ => (Options.factory, false)

/-- R188: power-on reset: the options latched, every block at its power-on values, the queue of commands kept. -/
def State.restart (s : State) : State :=
  let store := s.storeAtPowerOn
  { State.powerOn store store.latch.2 store.latch.1 with cuts := s.cutsAfter, pending := s.pending }

end Sys2Proof.Machine
end

