-- ==== Sys2Proof/Machine/RingCommands.lean ====
section
/-!
DEFINITION. The meanings of the commands of the Ring Port, of power-on reset and of the Option Store write.
-/

namespace Sys2Proof.Machine

/-- Every command goes on: the next state of an event. -/
abbrev Effect := Host.Outcome State Fault Refusal

/-- POWER_ON_RESET (R188). -/
def execPowerOnReset (s : State) : Effect := .next s.restart

/-- TRANSIT_OVERRUN (R158): a frame begins to arrive; with all four places held it is lost and counted. -/
def execTransitOverrun (s : State) : Effect := .next s.beginArrival

/-- FRAME_BEGINS_TO_ARRIVE (R158): a frame begins to arrive; with a place free it takes it. -/
def execFrameBeginsToArrive (s : State) : Effect := .next s.beginArrival

/-- IDLE_FILL (R170). -/
def execIdleFill (s : State) : Effect := .next s.active

/-- CHECK_FAILURE (R159): the bytes of a frame, all arrived. -/
def execCheckFailure (bytes : List Byte) (s : State) : Effect := .next (s.arrive (parseFrame bytes))

/-- TRANSIT_FRAME (R160): a frame of any destination. -/
def execTransitFrame (dst : Byte) (h : Hdr) (kind : BitVec 4) (payload : List Byte) (s : State) : Effect :=
  .next (s.arrive (some (composeFrame dst h.src (kindByte kind h.spare h.taken) h.seq payload)))

/-- IGNORED_FRAME (R161): a frame addressed to the part, of any kind. -/
def execIgnoredFrame (h : Hdr) (kind : BitVec 4) (payload : List Byte) (s : State) : Effect :=
  .next (s.arrive (some (frameTo s h kind payload)))

/-- OWN_FRAME_RETURN (R166): a frame whose source is the part's own latched address. -/
def execOwnFrameReturn (dst : Byte) (kind : BitVec 4) (seq : Byte) (taken : Bool) (payload : List Byte) (s : State) :
    Effect :=
  .next (s.arrive (some (composeFrame dst s.mgmt.latched.own (kindByte kind 0 taken) seq payload)))

/-- RETURN_DEADLINE (R168). -/
def execReturnDeadline (seq : Byte) (s : State) : Effect := .next (s.returnExpiry seq).endEvent

/-- TRANSMIT_ARBITRATION (R165). -/
def execTransmitArbitration (s : State) : Effect := .next s.arbitrate

/-- FRAME_SENT (R164). -/
def execFrameSent (s : State) : Effect := .next (s.updPort (·.sent s.clock))

/-- TRANSIT_FRAME_FORWARDED (R158). -/
def execTransitFrameForwarded (s : State) : Effect := .next (s.updPort RingPort.forwarded)

/-- RING_LOSS (R171): 20 ms without line activity, the monitor being UP; otherwise the monitor stays as it is. -/
def execRingLoss (s : State) : Effect := .next (if s.lineSilent then s.lose else s)

/-- OPTION_STORE_WRITE_COMPLETE (R187). -/
def execOptionStoreWriteComplete (s : State) : Effect := .next s.writeComplete

end Sys2Proof.Machine
end

