-- ==== Sys2Proof/Machine/DeadlineCommands.lean ====
section
/-!
DEFINITION. The meanings of the commands that are expiries on the Line Clock: the supervision scan, the phase deadlines of a
station, and the stamp and condemn deadlines. Each acts only when the clock has reached it (R67, log entry 2).
-/

namespace Sys2Proof.Machine

/-- SUPERVISION_SCAN (R68): at a clock value that leaves remainder 512 when divided by 1024; at another, no scan occurs. -/
def execSupervisionScan (s : State) : Effect := .next (if s.clock.toNat % 1024 = 512 then s.scan else s)

/-- ZERO_DEADLINE (R94). -/
def execZeroDeadline (i : StationNo) (s : State) : Effect := .next (s.zeroExpiry i).endEvent

/-- STEP_DEADLINE (R97). -/
def execStepDeadline (i : StationNo) (s : State) : Effect := .next (s.stepExpiry i).endEvent

/-- HOLD_DEADLINE (R101). -/
def execHoldDeadline (i : StationNo) (s : State) : Effect := .next (s.phaseEndExpiry i .holding).endEvent

/-- EXTENSION_CHECK (R102). -/
def execExtensionCheck (i : StationNo) (s : State) : Effect := .next (s.extensionExpiry i).endEvent

/-- VENT_DEADLINE (R106). -/
def execVentDeadline (i : StationNo) (s : State) : Effect := .next (s.ventExpiry i).endEvent

/-- SETTLE_DEADLINE (R107). -/
def execSettleDeadline (i : StationNo) (s : State) : Effect := .next (s.phaseEndExpiry i .settling).endEvent

/-- RELEASE_DEADLINE (R109). -/
def execReleaseDeadline (i : StationNo) (s : State) : Effect := .next (s.releaseExpiry i).endEvent

/-- STAMP_DEADLINE (R151). -/
def execStampDeadline (s : State) : Effect := .next (s.actExpiry .press)

/-- CONDEMN_DEADLINE (R152). -/
def execCondemnDeadline (s : State) : Effect := .next (s.actExpiry .scrapCell)

end Sys2Proof.Machine
end

