-- ==== Sys2Proof/Machine/LineCommands.lean ====
section
/-!
DEFINITION. The meanings of the commands that are frames of the line's units: tags, findings, DONE frames, samples and
station events. Each composes the frame its row stands for, addressed to the part, and lets it arrive: which block owns it,
and what that block does, is decided by the rules of the Ring Port and of the blocks (log entry 1).
-/

namespace Sys2Proof.Machine

/-- INTAKE_READ (R32): a TAG. -/
def execIntakeRead (h : Hdr) (payload : List Byte) (s : State) : Effect :=
  .next (s.arrive (some (frameTo s h Kind.tag payload)))

/-- FINDING (R51): a FINDING. -/
def execFinding (h : Hdr) (payload : List Byte) (s : State) : Effect :=
  .next (s.arrive (some (frameTo s h Kind.finding payload)))

/-- ARRIVAL_AT_PRESS (R145): a TAG. -/
def execArrivalAtPress (h : Hdr) (payload : List Byte) (s : State) : Effect :=
  .next (s.arrive (some (frameTo s h Kind.tag payload)))

/-- ARRIVAL_AT_SCRAP_CELL (R152): a TAG. -/
def execArrivalAtScrapCell (h : Hdr) (payload : List Byte) (s : State) : Effect :=
  .next (s.arrive (some (frameTo s h Kind.tag payload)))

/-- DONE_FROM_PRESS (R150): a DONE. -/
def execDoneFromPress (h : Hdr) (payload : List Byte) (s : State) : Effect :=
  .next (s.arrive (some (frameTo s h Kind.done payload)))

/-- DONE_FROM_SCRAP_CELL (R152): a DONE. -/
def execDoneFromScrapCell (h : Hdr) (payload : List Byte) (s : State) : Effect :=
  .next (s.arrive (some (frameTo s h Kind.done payload)))

/-- SAMPLE (R87): a SAMPLE. -/
def execSample (h : Hdr) (payload : List Byte) (s : State) : Effect :=
  .next (s.arrive (some (frameTo s h Kind.sample payload)))

/-- SEATED (R69): a STATION EVENT of code 1. -/
def execSeated (h : Hdr) (arg : List Byte) (s : State) : Effect :=
  .next (s.arrive (some (frameTo s h Kind.stationEvent (1 :: arg))))

/-- SEAL_FAULT (R75): a STATION EVENT of code 2. -/
def execSealFault (h : Hdr) (arg : List Byte) (s : State) : Effect :=
  .next (s.arrive (some (frameTo s h Kind.stationEvent (2 :: arg))))

/-- REACHED (R96): a STATION EVENT of code 3. -/
def execReached (h : Hdr) (arg : List Byte) (s : State) : Effect :=
  .next (s.arrive (some (frameTo s h Kind.stationEvent (3 :: arg))))

/-- VENTED (R105): a STATION EVENT of code 4. -/
def execVented (h : Hdr) (arg : List Byte) (s : State) : Effect :=
  .next (s.arrive (some (frameTo s h Kind.stationEvent (4 :: arg))))

/-- RELEASED (R76): a STATION EVENT of code 5. -/
def execReleased (h : Hdr) (arg : List Byte) (s : State) : Effect :=
  .next (s.arrive (some (frameTo s h Kind.stationEvent (5 :: arg))))

/-- BURST (R77): a STATION EVENT of code 6. -/
def execBurst (h : Hdr) (arg : List Byte) (s : State) : Effect :=
  .next (s.arrive (some (frameTo s h Kind.stationEvent (6 :: arg))))

/-- UNKNOWN_STATION_EVENT (R78): a STATION EVENT of any payload. -/
def execUnknownStationEvent (h : Hdr) (payload : List Byte) (s : State) : Effect :=
  .next (s.arrive (some (frameTo s h Kind.stationEvent payload)))

end Sys2Proof.Machine
end

