-- ==== Sys2Proof/Machine/RequestCommands.lean ====
section
/-!
DEFINITION. The meanings of the commands that are REQUEST frames. Each composes the frame of its request code, addressed to
the part, and lets it arrive; the Management Responder admits and serves it (R175 to R190).
-/

namespace Sys2Proof.Machine

/-- UNKNOWN_REQUEST (R176): a REQUEST of any payload. -/
def execUnknownRequest (h : Hdr) (payload : List Byte) (s : State) : Effect :=
  .next (s.arrive (some (frameTo s h Kind.request payload)))

/-- READ_TYPE_ENTRY (R10): request 1. -/
def execReadTypeEntry (h : Hdr) (tag : Byte) (args : List Byte) (s : State) : Effect :=
  .next (s.arrive (some (frameTo s h Kind.request (tag :: 1 :: args))))

/-- WRITE_TYPE_ENTRY (R8): request 2. -/
def execWriteTypeEntry (h : Hdr) (tag : Byte) (args : List Byte) (s : State) : Effect :=
  .next (s.arrive (some (frameTo s h Kind.request (tag :: 2 :: args))))

/-- READ_MATCH_ENTRY (R10): request 3. -/
def execReadMatchEntry (h : Hdr) (tag : Byte) (args : List Byte) (s : State) : Effect :=
  .next (s.arrive (some (frameTo s h Kind.request (tag :: 3 :: args))))

/-- WRITE_MATCH_ENTRY (R9): request 4. -/
def execWriteMatchEntry (h : Hdr) (tag : Byte) (args : List Byte) (s : State) : Effect :=
  .next (s.arrive (some (frameTo s h Kind.request (tag :: 4 :: args))))

/-- COPY_ACTIVE_TO_STANDBY (R16): request 5. -/
def execCopyActiveToStandby (h : Hdr) (tag : Byte) (args : List Byte) (s : State) : Effect :=
  .next (s.arrive (some (frameTo s h Kind.request (tag :: 5 :: args))))

/-- ACTIVATE_STANDBY (R17): request 6. -/
def execActivateStandby (h : Hdr) (tag : Byte) (args : List Byte) (s : State) : Effect :=
  .next (s.arrive (some (frameTo s h Kind.request (tag :: 6 :: args))))

/-- READ_BANK_STATUS (R10): request 7. -/
def execReadBankStatus (h : Hdr) (tag : Byte) (args : List Byte) (s : State) : Effect :=
  .next (s.arrive (some (frameTo s h Kind.request (tag :: 7 :: args))))

/-- READ_UNIT_ROLE (R180): request 8. -/
def execReadUnitRole (h : Hdr) (tag : Byte) (args : List Byte) (s : State) : Effect :=
  .next (s.arrive (some (frameTo s h Kind.request (tag :: 8 :: args))))

/-- WRITE_UNIT_ROLE (R180): request 9. -/
def execWriteUnitRole (h : Hdr) (tag : Byte) (args : List Byte) (s : State) : Effect :=
  .next (s.arrive (some (frameTo s h Kind.request (tag :: 9 :: args))))

/-- READ_STATION_ENTRY (R63): request 10. -/
def execReadStationEntry (h : Hdr) (tag : Byte) (args : List Byte) (s : State) : Effect :=
  .next (s.arrive (some (frameTo s h Kind.request (tag :: 10 :: args))))

/-- WRITE_STATION_ENTRY (R63): request 11. -/
def execWriteStationEntry (h : Hdr) (tag : Byte) (args : List Byte) (s : State) : Effect :=
  .next (s.arrive (some (frameTo s h Kind.request (tag :: 11 :: args))))

/-- CLEAR_STATION_FAULT (R83): request 13. -/
def execClearStationFault (h : Hdr) (tag : Byte) (args : List Byte) (s : State) : Effect :=
  .next (s.arrive (some (frameTo s h Kind.request (tag :: 13 :: args))))

/-- READ_RECORD (R179): request 14. -/
def execReadRecord (h : Hdr) (tag : Byte) (args : List Byte) (s : State) : Effect :=
  .next (s.arrive (some (frameTo s h Kind.request (tag :: 14 :: args))))

/-- REMOVE_RECORD (R43): request 15. -/
def execRemoveRecord (h : Hdr) (tag : Byte) (args : List Byte) (s : State) : Effect :=
  .next (s.arrive (some (frameTo s h Kind.request (tag :: 15 :: args))))

/-- SET_CALENDAR (R181): request 16. -/
def execSetCalendar (h : Hdr) (tag : Byte) (args : List Byte) (s : State) : Effect :=
  .next (s.arrive (some (frameTo s h Kind.request (tag :: 16 :: args))))

/-- GATE_OPEN (R141): request 17. -/
def execGateOpen (h : Hdr) (tag : Byte) (args : List Byte) (s : State) : Effect :=
  .next (s.arrive (some (frameTo s h Kind.request (tag :: 17 :: args))))

/-- GATE_CLOSE (R141): request 18. -/
def execGateClose (h : Hdr) (tag : Byte) (args : List Byte) (s : State) : Effect :=
  .next (s.arrive (some (frameTo s h Kind.request (tag :: 18 :: args))))

/-- READ_OPTIONS (R188): request 20. -/
def execReadOptions (h : Hdr) (tag : Byte) (args : List Byte) (s : State) : Effect :=
  .next (s.arrive (some (frameTo s h Kind.request (tag :: 20 :: args))))

/-- WRITE_OPTIONS (R187): request 21. -/
def execWriteOptions (h : Hdr) (tag : Byte) (args : List Byte) (s : State) : Effect :=
  .next (s.arrive (some (frameTo s h Kind.request (tag :: 21 :: args))))

/-- LINE_RESET (R189): request 22. -/
def execLineReset (h : Hdr) (tag : Byte) (args : List Byte) (s : State) : Effect :=
  .next (s.arrive (some (frameTo s h Kind.request (tag :: 22 :: args))))

/-- SET_STATION_SERVICE_IN (R81): request 12 with the service value 1. -/
def execSetStationServiceIn (h : Hdr) (tag index : Byte) (s : State) : Effect :=
  .next (s.arrive (some (frameTo s h Kind.request [tag, 12, index, 1])))

/-- SET_STATION_SERVICE_OUT (R82): request 12 with the service value 0. -/
def execSetStationServiceOut (h : Hdr) (tag index : Byte) (s : State) : Effect :=
  .next (s.arrive (some (frameTo s h Kind.request [tag, 12, index, 0])))

/-- READ_TALLIES (R183): request 19 with the action 0, keep. -/
def execReadTallies (h : Hdr) (tag group : Byte) (s : State) : Effect :=
  .next (s.arrive (some (frameTo s h Kind.request [tag, 19, 0, group])))

/-- CLEARING_READ_OF_TALLIES (R183): request 19 with the action 1, clear. -/
def execClearingReadOfTallies (h : Hdr) (tag group : Byte) (s : State) : Effect :=
  .next (s.arrive (some (frameTo s h Kind.request [tag, 19, 1, group])))

end Sys2Proof.Machine
end

