-- ==== Sys2Proof/Machine/Dispatch.lean ====
section
/-! DEFINITION. The dispatch of the commands: one arm per constructor of Instr, each a call of that command's meaning. -/

namespace Sys2Proof.Machine

def exec (i : Instr) (s : State) : Host.Outcome State Fault Refusal :=
  match i with
  | .powerOnReset => Sys2Proof.Machine.execPowerOnReset s
  | .transitOverrun => Sys2Proof.Machine.execTransitOverrun s
  | .idleFill => Sys2Proof.Machine.execIdleFill s
  | .checkFailure bytes => Sys2Proof.Machine.execCheckFailure bytes s
  | .transitFrame dst h kind payload => Sys2Proof.Machine.execTransitFrame dst h kind payload s
  | .ignoredFrame h kind payload => Sys2Proof.Machine.execIgnoredFrame h kind payload s
  | .ownFrameReturn dst kind seq taken payload => Sys2Proof.Machine.execOwnFrameReturn dst kind seq taken payload s
  | .returnDeadline seq => Sys2Proof.Machine.execReturnDeadline seq s
  | .transmitArbitration => Sys2Proof.Machine.execTransmitArbitration s
  | .frameSent => Sys2Proof.Machine.execFrameSent s
  | .ringLoss => Sys2Proof.Machine.execRingLoss s
  | .intakeRead h payload => Sys2Proof.Machine.execIntakeRead h payload s
  | .finding h payload => Sys2Proof.Machine.execFinding h payload s
  | .sample h payload => Sys2Proof.Machine.execSample h payload s
  | .seated h arg => Sys2Proof.Machine.execSeated h arg s
  | .sealFault h arg => Sys2Proof.Machine.execSealFault h arg s
  | .reached h arg => Sys2Proof.Machine.execReached h arg s
  | .vented h arg => Sys2Proof.Machine.execVented h arg s
  | .released h arg => Sys2Proof.Machine.execReleased h arg s
  | .burst h arg => Sys2Proof.Machine.execBurst h arg s
  | .unknownStationEvent h payload => Sys2Proof.Machine.execUnknownStationEvent h payload s
  | .arrivalAtPress h payload => Sys2Proof.Machine.execArrivalAtPress h payload s
  | .arrivalAtScrapCell h payload => Sys2Proof.Machine.execArrivalAtScrapCell h payload s
  | .doneFromPress h payload => Sys2Proof.Machine.execDoneFromPress h payload s
  | .doneFromScrapCell h payload => Sys2Proof.Machine.execDoneFromScrapCell h payload s
  | .supervisionScan => Sys2Proof.Machine.execSupervisionScan s
  | .zeroDeadline k => Sys2Proof.Machine.execZeroDeadline k s
  | .stepDeadline k => Sys2Proof.Machine.execStepDeadline k s
  | .holdDeadline k => Sys2Proof.Machine.execHoldDeadline k s
  | .extensionCheck k => Sys2Proof.Machine.execExtensionCheck k s
  | .ventDeadline k => Sys2Proof.Machine.execVentDeadline k s
  | .settleDeadline k => Sys2Proof.Machine.execSettleDeadline k s
  | .releaseDeadline k => Sys2Proof.Machine.execReleaseDeadline k s
  | .stampDeadline => Sys2Proof.Machine.execStampDeadline s
  | .condemnDeadline => Sys2Proof.Machine.execCondemnDeadline s
  | .optionStoreWriteComplete => Sys2Proof.Machine.execOptionStoreWriteComplete s
  | .unknownRequest h payload => Sys2Proof.Machine.execUnknownRequest h payload s
  | .readTypeEntry h tag args => Sys2Proof.Machine.execReadTypeEntry h tag args s
  | .writeTypeEntry h tag args => Sys2Proof.Machine.execWriteTypeEntry h tag args s
  | .readMatchEntry h tag args => Sys2Proof.Machine.execReadMatchEntry h tag args s
  | .writeMatchEntry h tag args => Sys2Proof.Machine.execWriteMatchEntry h tag args s
  | .copyActiveToStandby h tag args => Sys2Proof.Machine.execCopyActiveToStandby h tag args s
  | .activateStandby h tag args => Sys2Proof.Machine.execActivateStandby h tag args s
  | .readBankStatus h tag args => Sys2Proof.Machine.execReadBankStatus h tag args s
  | .readUnitRole h tag args => Sys2Proof.Machine.execReadUnitRole h tag args s
  | .writeUnitRole h tag args => Sys2Proof.Machine.execWriteUnitRole h tag args s
  | .readStationEntry h tag args => Sys2Proof.Machine.execReadStationEntry h tag args s
  | .writeStationEntry h tag args => Sys2Proof.Machine.execWriteStationEntry h tag args s
  | .setStationServiceIn h tag index => Sys2Proof.Machine.execSetStationServiceIn h tag index s
  | .setStationServiceOut h tag index => Sys2Proof.Machine.execSetStationServiceOut h tag index s
  | .clearStationFault h tag args => Sys2Proof.Machine.execClearStationFault h tag args s
  | .readRecord h tag args => Sys2Proof.Machine.execReadRecord h tag args s
  | .removeRecord h tag args => Sys2Proof.Machine.execRemoveRecord h tag args s
  | .setCalendar h tag args => Sys2Proof.Machine.execSetCalendar h tag args s
  | .gateOpen h tag args => Sys2Proof.Machine.execGateOpen h tag args s
  | .gateClose h tag args => Sys2Proof.Machine.execGateClose h tag args s
  | .readTallies h tag group => Sys2Proof.Machine.execReadTallies h tag group s
  | .clearingReadOfTallies h tag group => Sys2Proof.Machine.execClearingReadOfTallies h tag group s
  | .readOptions h tag args => Sys2Proof.Machine.execReadOptions h tag args s
  | .writeOptions h tag args => Sys2Proof.Machine.execWriteOptions h tag args s
  | .lineReset h tag args => Sys2Proof.Machine.execLineReset h tag args s
  | .frameBeginsToArrive => Sys2Proof.Machine.execFrameBeginsToArrive s
  | .transitFrameForwarded => Sys2Proof.Machine.execTransitFrameForwarded s

end Sys2Proof.Machine
end

