-- ==== Sys2Proof/Machine/Step.lean ====
section
/-! DEFINITION. One step of the machine: the command at the front of the queue, or, with none waiting, a millisecond of the
Line Clock. -/

namespace Sys2Proof.Machine

/-- R67: the Line Clock rises by one millisecond; a tick takes no expiry by itself (log entry 2). -/
def State.tick (s : State) : State := { s with clock := s.clock + 1 }

/-- One step: `exec` of the command at the front of the queue, on the state with the rest of the queue. With an empty
queue the part idles and a millisecond passes (log entry 2). -/
def step (s : State) : Host.Outcome State Fault Refusal :=
  match s.pending with
  | c :: rest => exec c { s with pending := rest }
  | [] => .next s.tick

/-- The state with the command that a table word spells put at the front of its queue; no row of the table gives bits, so
the state is unchanged. -/
def State.withFetchWord (s : State) (nbits w : Nat) : State :=
  match decodeTableWord nbits w with
  | some c => { s with pending := c :: s.pending }
  | none => s

end Sys2Proof.Machine
end

