-- ==== Sys2Proof/WellFormed.lean ====
section
/-!
DEFINITION. Which commands the ring can carry: a source address of R192 and a payload that fits its length field. `exec`
gives a meaning to every command, well formed or not: a frame that breaks these bounds fails its check (R159).
-/

namespace Sys2Proof

/-- R192: a source address is 1..62. -/
def Hdr.wf (h : Hdr) : Bool := 1 ≤ h.src.toNat && h.src.toNat ≤ 62

/-- R192: a payload is at most 48 bytes. -/
def payloadFits (p : List Byte) : Bool := p.length ≤ 48

/-- The well-formedness of a command: the header's source (R192), the payload's size with its event code, or its tag and
request code, before it (R192, R194, R197), and a frame of 7 to 55 bytes (R192). -/
def Instr.wf : Instr → Bool
  | .checkFailure bytes => 7 ≤ bytes.length && bytes.length ≤ 55
  | .transitFrame _ h _ p => h.wf && payloadFits p
  | .ignoredFrame h _ p => h.wf && payloadFits p
  | .ownFrameReturn _ _ _ _ p => payloadFits p
  | .intakeRead h p => h.wf && payloadFits p
  | .finding h p => h.wf && payloadFits p
  | .sample h p => h.wf && payloadFits p
  | .seated h a => h.wf && payloadFits (1 :: a)
  | .sealFault h a => h.wf && payloadFits (2 :: a)
  | .reached h a => h.wf && payloadFits (3 :: a)
  | .vented h a => h.wf && payloadFits (4 :: a)
  | .released h a => h.wf && payloadFits (5 :: a)
  | .burst h a => h.wf && payloadFits (6 :: a)
  | .unknownStationEvent h p => h.wf && payloadFits p
  | .arrivalAtPress h p => h.wf && payloadFits p
  | .arrivalAtScrapCell h p => h.wf && payloadFits p
  | .doneFromPress h p => h.wf && payloadFits p
  | .doneFromScrapCell h p => h.wf && payloadFits p
  | .unknownRequest h p => h.wf && payloadFits p
  | .readTypeEntry h t a => h.wf && payloadFits (t :: 1 :: a)
  | .writeTypeEntry h t a => h.wf && payloadFits (t :: 2 :: a)
  | .readMatchEntry h t a => h.wf && payloadFits (t :: 3 :: a)
  | .writeMatchEntry h t a => h.wf && payloadFits (t :: 4 :: a)
  | .copyActiveToStandby h t a => h.wf && payloadFits (t :: 5 :: a)
  | .activateStandby h t a => h.wf && payloadFits (t :: 6 :: a)
  | .readBankStatus h t a => h.wf && payloadFits (t :: 7 :: a)
  | .readUnitRole h t a => h.wf && payloadFits (t :: 8 :: a)
  | .writeUnitRole h t a => h.wf && payloadFits (t :: 9 :: a)
  | .readStationEntry h t a => h.wf && payloadFits (t :: 10 :: a)
  | .writeStationEntry h t a => h.wf && payloadFits (t :: 11 :: a)
  | .setStationServiceIn h _ _ => h.wf
  | .setStationServiceOut h _ _ => h.wf
  | .clearStationFault h t a => h.wf && payloadFits (t :: 13 :: a)
  | .readRecord h t a => h.wf && payloadFits (t :: 14 :: a)
  | .removeRecord h t a => h.wf && payloadFits (t :: 15 :: a)
  | .setCalendar h t a => h.wf && payloadFits (t :: 16 :: a)
  | .gateOpen h t a => h.wf && payloadFits (t :: 17 :: a)
  | .gateClose h t a => h.wf && payloadFits (t :: 18 :: a)
  | .readTallies h _ _ => h.wf
  | .clearingReadOfTallies h _ _ => h.wf
  | .readOptions h t a => h.wf && payloadFits (t :: 20 :: a)
  | .writeOptions h t a => h.wf && payloadFits (t :: 21 :: a)
  | .lineReset h t a => h.wf && payloadFits (t :: 22 :: a)
  | .powerOnReset => true
  | .transitOverrun => true
  | .idleFill => true
  | .returnDeadline _ => true
  | .transmitArbitration => true
  | .frameSent => true
  | .ringLoss => true
  | .supervisionScan => true
  | .zeroDeadline _ => true
  | .stepDeadline _ => true
  | .holdDeadline _ => true
  | .extensionCheck _ => true
  | .ventDeadline _ => true
  | .settleDeadline _ => true
  | .releaseDeadline _ => true
  | .stampDeadline => true
  | .condemnDeadline => true
  | .optionStoreWriteComplete => true
  | .frameBeginsToArrive => true
  | .transitFrameForwarded => true

end Sys2Proof
end

