-- ==== Sys2Proof/Safety.lean ====
section
/-!
DEFINITION. The terms the statements use: when a frame of a command is heard by the part, what the Ring Port does round its
owner's handling of it, and the laws of lasting state that every command keeps. A run is safe while the laws hold.
-/

namespace Sys2Proof.Machine

/-! ## A frame heard (R158 to R161) -/

/-- A frame of this header and payload that completes its arrival now is valid, comes from another unit, and finds the ring
UP: a place of the Transit Buffer is its own or free, its source is 1..62 and not the part's own address, and its payload
fits (R158, R159, R160, R170). -/
abbrev State.Hears (s : State) (h : Hdr) (payload : List Byte) : Prop :=
  takePlace s.port.transit ≠ none ∧ s.port.monitor = .up ∧ h.wf = true ∧ h.src ≠ s.mgmt.latched.own
    ∧ payloadFits payload = true

/-- The state in which the owning block finds a frame that the part hears: the frame's place given up, the line active, the
frame counted as received, the offline flag of its source's role cleared (R158, R159, R170, R134). -/
def State.heard (h : Hdr) (s : State) : State :=
  State.clearOffline h.src
    { s with
      port := { s.port with
        transit := (takePlace s.port.transit).getD [], lastActivity := s.clock }
      mgmt := { s.mgmt with tallies := s.mgmt.tallies.add 1 .received } }

/-- What follows the owner's handling: the frame stored for forwarding, its taken mark set where it was taken, and the Route
Dispatcher and the notice source sending what they now may (R160, R161, R138, R185). -/
def State.passOn (f : Frame) (taken : Bool) (s : State) : State := (s.store f taken).endEvent

/-! ## A request served (R175, R176) -/

/-- A REQUEST of this header and payload is heard, comes from the latched supervisor, and finds the Responder IDLE. -/
abbrev State.Serves (s : State) (h : Hdr) (payload : List Byte) : Prop :=
  s.Hears h payload ∧ s.mgmt.responder = .idle ∧ h.src = s.mgmt.latched.supervisor

/-- What follows a request's effect `t`: a lane order that may now be sent joins the queue, then the REPLY with this status
and these results to the request's source (R174), the Responder is REPLY PENDING (R175), and the request's frame, taken,
goes on. -/
def State.served (s : State) (h : Hdr) (tag code : Byte) (args : List Byte) (st : Status) (results : List Byte)
    (t : State) : State :=
  State.passOn (frameTo s h Kind.request (tag :: code :: args)) true
    (((t.pumpRoute.offer .reply h.src (.reply ⟨tag, code, st, results⟩))).updMgmt fun m =>
      { m with responder := .replyPending })

/-! ## A station's frame (R64) -/

/-- The state in which the Station Controller handles a frame of station `i`: as heard, the station's last frame time set
unless it is OUT OF SERVICE. -/
def State.heardFrom (h : Hdr) (i : StationNo) (s : State) : State :=
  (s.heard h).updStation i fun st => if st.state = .outOfService then st else { st with lastFrame := s.clock }

/-- A frame of this header and payload is heard and its source is the unit address of Station Table entry `i`. -/
abbrev State.HearsStation (s : State) (h : Hdr) (payload : List Byte) (i : StationNo) : Prop :=
  s.Hears h payload ∧ s.stationAt h.src = some i

/-- A frame of this header and payload is heard, its source is no station's address and holds the role. -/
abbrev State.HearsRole (s : State) (h : Hdr) (payload : List Byte) (r : Role) : Prop :=
  s.Hears h payload ∧ s.stationAt h.src = none ∧ s.roleOf h.src = r

/-! ## The payloads of the line's units (R191, R194) -/

/-- R24: a well-formed serial. -/
abbrev goodSerial (sr : List Byte) : Prop := 1 ≤ sr.length ∧ sr.length ≤ 16 ∧ sr.all serialChar = true

/-- R194: the payload of a TAG. -/
def tagPayload (field : List Byte) (maker model : Word16) (year tare : Nat) : List Byte :=
  field ++ beBytes 2 maker.toNat ++ beBytes 2 model.toNat ++ beBytes 2 year ++ beBytes 2 tare

/-- R194: the payload of a FINDING. -/
def findingPayload (field : List Byte) (items : BitVec 8) (sets clears : Word16) (tare : Nat) : List Byte :=
  field ++ [items] ++ beBytes 2 sets.toNat ++ beBytes 2 clears.toNat ++ beBytes 2 tare

/-- R194: the payload of a SAMPLE. -/
def samplePayload (seq : Byte) (pressure level temp : Nat) : List Byte :=
  seq :: (beBytes 2 pressure ++ beBytes 2 level ++ beBytes 2 temp)

/-- R24: a number holds the one record of a serial. -/
abbrev State.Holds (s : State) (sr : List Byte) (n : RecNo) (r : Record) : Prop :=
  s.getRec n = some r ∧ r.serial = sr ∧ ∀ m q, s.getRec m = some q → q.serial = sr → m = n

/-- No record holds a serial. -/
abbrev State.Lacks (s : State) (sr : List Byte) : Prop := ∀ m q, s.getRec m = some q → q.serial ≠ sr

/-- R6, R197: every field of a type entry fits the bytes that READ TYPE ENTRY and WRITE TYPE ENTRY give it. -/
abbrev TypeEntry.Fits (e : TypeEntry) : Prop :=
  e.pt < 65536 ∧ e.band < 65536 ∧ e.ree < 65536 ∧ e.permLimit < 256 ∧ e.steps < 256 ∧ e.stepTimeout < 256
    ∧ e.zeroTimeout < 256 ∧ e.holdTime < 65536 ∧ e.stabBand < 256 ∧ e.window < 256 ∧ e.maxExtension < 256
    ∧ e.ventTimeout < 256 ∧ e.settleTime < 65536 ∧ e.retestLimit < 256 ∧ e.tareLossLimit < 256 ∧ e.serviceLife < 256

/-- A test of record `n` is in progress at station `i`. -/
abbrev State.Tests (s : State) (i : StationNo) (n : RecNo) (r : Record) : Prop :=
  (s.station i).record = some n ∧ s.getRec n = some r

/-! ## Laws of lasting state -/

/-- The state of the record that a number holds; none for a free number. -/
def State.stateOf (s : State) (n : RecNo) : Option RecState := (s.getRec n).map (·.state)

/-- A test is in progress at a station: SEATED..SETTLING, but not VENTING with the aborted flag set (R66). -/
def Station.testing (st : Station) : Bool := st.state.inCycle && !(st.state == .venting && st.aborted)

/-- The capacities of R91, R133, R158, R162, R164, R165, R182 and R184: no collection of the part passes its size, and no
tally its 32 bits. -/
abbrev State.WithinBounds (s : State) : Prop :=
  s.port.transit.length ≤ 4 ∧ s.port.queue.length ≤ 16 ∧ s.port.flights.length ≤ 13 ∧ s.port.row ≤ 4
    ∧ s.mgmt.notices.length ≤ 8
    ∧ s.dispatch.routes.length ≤ 4 ∧ s.dispatch.markList.length ≤ 32 ∧ s.dispatch.scrapList.length ≤ 32
    ∧ (∀ i, (s.station i).window.length ≤ 16)
    ∧ ∀ n ∈ s.mgmt.tallies.group1 ++ s.mgmt.tallies.group2, n ≤ 4294967295

/-- R11: exactly one bank is ACTIVE. -/
abbrev State.OneActive (s : State) : Prop := s.banks.a.state = .active ↔ s.banks.b.state ≠ .active

/-- R135: a list holds a number at most once, and exactly the numbers of the records in its pending state. -/
abbrev State.ListLaw (s : State) (a : Actuator) : Prop :=
  (s.dispatch.list a).Nodup ∧ ∀ n, n ∈ s.dispatch.list a ↔ s.stateOf n = some a.pendingState

/-- R30: the Closed List holds a number at most once, and exactly the numbers of the closed records. -/
abbrev State.ClosedLaw (s : State) : Prop :=
  s.records.closed.Nodup ∧ ∀ n, n ∈ s.records.closed ↔ (s.stateOf n).any RecState.isClosed = true

/-- R22, R65, R66: a station holds a record number exactly while a test is in progress there; that record is ON TEST; no two
stations hold one record; every record ON TEST is held by a station; and a record has a seated-from state exactly while it
is ON TEST. -/
abbrev State.TestLaw (s : State) : Prop :=
  (∀ i, (s.station i).record.isSome = (s.station i).testing)
    ∧ (∀ i n, (s.station i).record = some n → s.stateOf n = some .onTest)
    ∧ (∀ i j n, (s.station i).record = some n → (s.station j).record = some n → i = j)
    ∧ (∀ n, s.stateOf n = some .onTest → ∃ i, (s.station i).record = some n)
    ∧ ∀ n r, s.getRec n = some r → r.seatedFrom.isSome = (r.state == .onTest)

/-- R143, R152: the record of an order in flight to an actuator is at that actuator, and a record at an actuator has its
order in flight. -/
abbrev State.FlightLaw (s : State) (a : Actuator) : Prop :=
  (∀ c, s.dispatch.disp a = .acting c → s.stateOf c.record = some a.atState)
    ∧ ∀ n, s.stateOf n = some a.atState → ∃ c, s.dispatch.disp a = .acting c ∧ c.record = n

/-- R24: no two records hold the same serial. -/
abbrev State.SerialLaw (s : State) : Prop :=
  ∀ m n r q, s.getRec m = some r → s.getRec n = some q → r.serial = q.serial → m = n

/-- The laws that tie every record to the one place that holds it. -/
abbrev State.RecordLaw (s : State) : Prop :=
  s.ListLaw .press ∧ s.ListLaw .scrapCell ∧ s.ClosedLaw ∧ s.TestLaw ∧ s.FlightLaw .press ∧ s.FlightLaw .scrapCell
    ∧ s.SerialLaw

/-- The number of records that name a bank. -/
def State.named (s : State) (k : BankId) : Nat :=
  (List.finRange 128).countP fun n => (s.getRec n).any fun r => r.bank.any fun b => b.bank == k

/-- R11, R12, R14, R22: one bank is ACTIVE; a bank's count is the number of records that name it; a STANDBY bank's is 0; a
record names a bank exactly while its state references one, and then with that bank's generation. -/
abbrev State.BankLaw (s : State) : Prop :=
  s.OneActive
    ∧ (∀ k, (s.banks.get k).refs = s.named k ∧ ((s.banks.get k).state = .standby → (s.banks.get k).refs = 0))
    ∧ ∀ n r, s.getRec n = some r →
        (r.bank.isSome = r.state.references) ∧ ∀ b, r.bank = some b → b.gen = (s.banks.get b.bank).gen

/-- The frames of a source that stand in the Inject Queue or are being sent on the OUT pair, a frame orphaned by ring loss
apart. -/
def RingPort.queuedOf (p : RingPort) (k : Src) : Nat :=
  p.queue.countP (fun q => q.src == k)
    + match p.out with
      | .own q _ false => if q.src = k then 1 else 0
      | _ => 0

/-- The frames of a source that are in flight. -/
def RingPort.flyingOf (p : RingPort) (k : Src) : Nat := p.flights.countP fun x => x.frame.src == k

/-- R162, R163: a source's condition says where its one frame is, a free source has an empty next-frame slot, and a slot
holds a frame of its own source. -/
def RingPort.lawOf (p : RingPort) (k : Src) : Prop :=
  (match (p.source k).cond with
    | .free => p.queuedOf k = 0 ∧ p.flyingOf k = 0 ∧ (p.source k).slot = none
    | .queued => p.queuedOf k = 1 ∧ p.flyingOf k = 0
    | .onRing => p.queuedOf k = 0 ∧ p.flyingOf k = 1)
  ∧ ∀ q, (p.source k).slot = some q → q.src = k

/-- R162: every originating source has at most one frame queued or on the ring, as its condition says, and its own next
frame in its slot. -/
abbrev State.PortLaw (s : State) : Prop := ∀ k, s.port.lawOf k

end Sys2Proof.Machine
end

