-- ==== Sys2Proof/Certificates/Slice0/Obligations.lean ====
section
/-!
DEFINITION. The statements for the provers. `heard`, `heardFrom`, `passOn` and `served` are the frame's passage round the
owner's handling (Sys2Proof/Safety.lean); `offer` is R163 and `endEvent` the end of an event (R138, R185), each with a
statement of its own. A statement that gives a command's next state as an equation gives its whole effect: what the equation
does not name is as it was.
-/

open Sys2Proof Sys2Proof.Machine

/-! ## The machine -/

/-- One step runs the command at the front of the queue, with the rest of the queue; with none waiting a millisecond passes
(the queue and the tick are the model's choice, log entry 2). -/
def Obligations.StepRunsTheFrontCommand : Prop :=
  (∀ (c : Instr) (rest : List Instr) (s : State), s.pending = c :: rest → step s = exec c { s with pending := rest })
    ∧ ∀ s : State, s.pending = [] → step s = .next { s with clock := s.clock + 1 }

/-- Every command that is a frame addressed to the part is the arrival of that frame, with the kind of R193 and the event or
request code of R194 and R197: what one of them does by the rules of reception, all do. (That a command's name fixes the
frame's kind and code alone, so that rows overlap and act alike on the same bytes, is the model's choice, log entry 1.) -/
def Obligations.FrameCommandsAreFrames : Prop :=
  ∀ (s : State) (h : Hdr) (p a : List Byte) (g x : Byte) (k : BitVec 4),
    let sent (kind : BitVec 4) (payload : List Byte) := exec (.transitFrame s.mgmt.latched.own h kind payload) s
    exec (.ignoredFrame h k p) s = sent k p
      ∧ exec (.intakeRead h p) s = sent 1 p
      ∧ exec (.arrivalAtPress h p) s = sent 1 p
      ∧ exec (.arrivalAtScrapCell h p) s = sent 1 p
      ∧ exec (.finding h p) s = sent 2 p
      ∧ exec (.sample h p) s = sent 3 p
      ∧ exec (.unknownStationEvent h p) s = sent 4 p
      ∧ exec (.seated h a) s = sent 4 (1 :: a)
      ∧ exec (.sealFault h a) s = sent 4 (2 :: a)
      ∧ exec (.reached h a) s = sent 4 (3 :: a)
      ∧ exec (.vented h a) s = sent 4 (4 :: a)
      ∧ exec (.released h a) s = sent 4 (5 :: a)
      ∧ exec (.burst h a) s = sent 4 (6 :: a)
      ∧ exec (.doneFromPress h p) s = sent 5 p
      ∧ exec (.doneFromScrapCell h p) s = sent 5 p
      ∧ exec (.unknownRequest h p) s = sent 9 p
      ∧ exec (.readTypeEntry h g a) s = sent 9 (g :: 1 :: a)
      ∧ exec (.writeTypeEntry h g a) s = sent 9 (g :: 2 :: a)
      ∧ exec (.readMatchEntry h g a) s = sent 9 (g :: 3 :: a)
      ∧ exec (.writeMatchEntry h g a) s = sent 9 (g :: 4 :: a)
      ∧ exec (.copyActiveToStandby h g a) s = sent 9 (g :: 5 :: a)
      ∧ exec (.activateStandby h g a) s = sent 9 (g :: 6 :: a)
      ∧ exec (.readBankStatus h g a) s = sent 9 (g :: 7 :: a)
      ∧ exec (.readUnitRole h g a) s = sent 9 (g :: 8 :: a)
      ∧ exec (.writeUnitRole h g a) s = sent 9 (g :: 9 :: a)
      ∧ exec (.readStationEntry h g a) s = sent 9 (g :: 10 :: a)
      ∧ exec (.writeStationEntry h g a) s = sent 9 (g :: 11 :: a)
      ∧ exec (.setStationServiceIn h g x) s = sent 9 [g, 12, x, 1]
      ∧ exec (.setStationServiceOut h g x) s = sent 9 [g, 12, x, 0]
      ∧ exec (.clearStationFault h g a) s = sent 9 (g :: 13 :: a)
      ∧ exec (.readRecord h g a) s = sent 9 (g :: 14 :: a)
      ∧ exec (.removeRecord h g a) s = sent 9 (g :: 15 :: a)
      ∧ exec (.setCalendar h g a) s = sent 9 (g :: 16 :: a)
      ∧ exec (.gateOpen h g a) s = sent 9 (g :: 17 :: a)
      ∧ exec (.gateClose h g a) s = sent 9 (g :: 18 :: a)
      ∧ exec (.readTallies h g x) s = sent 9 [g, 19, 0, x]
      ∧ exec (.clearingReadOfTallies h g x) s = sent 9 [g, 19, 1, x]
      ∧ exec (.readOptions h g a) s = sent 9 (g :: 20 :: a)
      ∧ exec (.writeOptions h g a) s = sent 9 (g :: 21 :: a)
      ∧ exec (.lineReset h g a) s = sent 9 (g :: 22 :: a)

/-- Power-on reset leaves every block at its power-on values and the queue of commands as it was. With no write in progress
the Option Store is kept, and its values, or the factory values where it holds none that pass, are latched. A write cut
short leaves the old store or the new values (R188; which of the two is a free value, log entry 4). A station's last frame
time of 0, the queue kept through the reset, and a frame being sent at the reset broken off, the OUT pair idle, are the
model's choices (log entries 7, 21 and 29). -/
def Obligations.PowerOnResetValues : Prop :=
  ∀ s : State, ∃ t, exec .powerOnReset s = .next t
    ∧ t.clock = 0
    ∧ t.banks.a.state = .active ∧ t.banks.b.state = .standby
    ∧ (∀ k, (t.banks.get k).gen = 0 ∧ (t.banks.get k).refs = 0
        ∧ (∀ c : Fin 64, (t.banks.get k).typeTable[c] = TypeEntry.invalid)
        ∧ ∀ c : Fin 64, (t.banks.get k).matchTable[c] = MatchEntry.invalid)
    ∧ (∀ n, t.getRec n = none) ∧ t.records.closed = [] ∧ t.records.openCount = 0
    ∧ (∀ i, t.station i = ⟨⟨0, 0, 0, 0⟩, .outOfService, none, 0, none, none, [], none, 0, none, false, false, false, 0⟩)
    ∧ t.dispatch = ⟨[], [], [], .idle, .idle, .idle, .gateClosed, false, false, false, false, false, false, false⟩
    ∧ (∀ k, t.port.source k = ⟨.free, none⟩)
    ∧ t.port.transit = [] ∧ t.port.queue = [] ∧ t.port.flights = [] ∧ t.port.nextSeq = 0 ∧ t.port.row = 0
    ∧ t.port.monitor = .down ∧ t.port.lastActivity = 0 ∧ t.port.out = .idle
    ∧ t.mgmt.calendar = none ∧ t.mgmt.tallies = ⟨0, 0, 0, 0, 0, 0, 0, 0, 0, 0, 0, 0, 0, 0⟩
    ∧ t.mgmt.notices = [] ∧ t.mgmt.responder = .idle
    ∧ (∀ i : Fin 62, t.roles[i] = .unassigned)
    ∧ t.pending = s.pending
    ∧ t.mgmt.storeSound = (match t.mgmt.store with | .holds _ => true | _ => false)
    ∧ t.mgmt.latched
        = (match t.mgmt.store with
          | .holds o => o
          | _ => ⟨1, 62, ⟨0x20, 0x20, 0x20, 0x20⟩, 8, .lenient⟩)
    ∧ (match s.mgmt.responder with
      | .working w => t.mgmt.store = s.mgmt.store ∨ t.mgmt.store = .holds w.options
      | _ => t.mgmt.store = s.mgmt.store)

/-- The state after reset keeps every law: the bounds, the records, the banks and the Ring Port's sources. -/
def Obligations.LawsHoldAtReset : Prop :=
  State.reset.WithinBounds ∧ State.reset.RecordLaw ∧ State.reset.BankLaw ∧ State.reset.PortLaw

/-- While each source has at most one frame queued or on the ring, no step takes the Transit Buffer, the Inject Queue, the
list of frames in flight, the arbiter's count, the Notice FIFO, the Route FIFO, the Mark List, the Scrap List or a sample
window past its capacity, or a tally past its 32 bits. -/
def Obligations.EveryStepKeepsTheBounds : Prop :=
  ∀ s t : State, s.WithinBounds → s.PortLaw → step s = .next t → t.WithinBounds

/-- Every step keeps the laws of R22, R24, R30, R65 and R135: each record is on exactly the list, at exactly the station and
in exactly the flight that its state says, and no serial is held twice. -/
def Obligations.EveryStepKeepsTheRecordLaw : Prop :=
  ∀ s t : State, s.RecordLaw → step s = .next t → t.RecordLaw

/-- Every step keeps the laws of R11, R12, R14 and R22: exactly one bank ACTIVE, each bank's count the number of records that
name it, a STANDBY bank named by none, and every reference carrying its bank's generation. -/
def Obligations.EveryStepKeepsTheBankLaw : Prop :=
  ∀ s t : State, s.RecordLaw → s.BankLaw → step s = .next t → t.BankLaw

/-- Every step keeps R162's law of the originating sources: each has at most one frame queued or on the ring, where its
condition says it is, a free source has nothing in its next-frame slot, and a slot holds a frame of its own source. -/
def Obligations.EveryStepKeepsThePortLaw : Prop :=
  ∀ s t : State, s.PortLaw → step s = .next t → t.PortLaw

/-! ## The Ring Port -/

/-- What is done with a frame before its owner sees it changes only its place, the line's activity time, the
frames-received tally, the offline flag of the role its source holds, and, from the diverter, that it has been heard from
(R140, log entry 12); what is done after changes only the Transit Buffer,
the Route Dispatcher's state, the Inject Queue and the sources. A frame taken is stored with bit 7 of its kind byte set and
every other byte as it was. -/
def Obligations.PassageTouchesOnlyThePort : Prop :=
  (∀ (s : State) (h : Hdr),
      s.heard h = { s with
        port := { s.port with transit := (takePlace s.port.transit).getD [], lastActivity := s.clock }
        mgmt := { s.mgmt with tallies := { s.mgmt.tallies with received := min (s.mgmt.tallies.received + 1) 4294967295 } }
        dispatch := { s.dispatch with
          pressOffline := s.dispatch.pressOffline && decide (s.roleOf h.src ≠ .markingPress)
          scrapOffline := s.dispatch.scrapOffline && decide (s.roleOf h.src ≠ .scrapCell)
          diverterOffline := s.dispatch.diverterOffline && decide (s.roleOf h.src ≠ .diverter)
          diverterHeard := s.dispatch.diverterHeard || decide (s.roleOf h.src = .diverter) } })
    ∧ (∀ (s : State) (f : Frame) (taken : Bool), ∃ d q src,
        s.passOn f taken = { s with
          dispatch := { s.dispatch with routeD := d }
          port := { s.port with
            transit := s.port.transit ++ [.stored (if taken then { f with kind := f.kind ||| 0x80 } else f)]
            queue := s.port.queue ++ q, sources := src } })

/-- R163: an offer by the source's condition and the monitor: it joins the queue, it waits in the slot in place of what was
there, or it is discarded; nothing else changes. R138, R140, R185: the Route Dispatcher in IDLE sends the head entry to the
diverter, the unit that R134 names by its role, when it is online, a frame has come from it since its role was given (log
entry 12), and the ring is UP, and otherwise keeps still; the notice source, when free, sends the head notice to the latched supervisor while the ring is UP.
That every event ends with the lane order and then the notice is the model's (log entry 11). -/
def Obligations.OffersAndTheEndOfAnEvent : Prop :=
  (∀ (p : RingPort) (q : OwnFrame),
    ((p.source q.src).cond = .free → p.offer q = { p with
        queue := p.queue ++ [q]
        sources := p.sources.set q.src.idx.val ⟨.queued, (p.source q.src).slot⟩ q.src.idx.isLt })
      ∧ ((p.source q.src).cond ≠ .free → p.monitor = .up → p.offer q = { p with
        sources := p.sources.set q.src.idx.val ⟨(p.source q.src).cond, some q⟩ q.src.idx.isLt })
      ∧ ((p.source q.src).cond ≠ .free → p.monitor = .down → p.offer q = p))
  ∧ (∀ (p : RingPort) (j k : Src), p.source k = p.sources[k.idx] ∧ (j.idx = k.idx → j = k))
  ∧ ∀ s : State,
    (∀ k dst b, s.offer k dst b = { s with port := s.port.offer ⟨k, dst, b, false⟩ })
      ∧ (∀ r addr, s.addrOf r = some addr → ∃ i : Fin 62, s.roles[i] = r ∧ addr = byteOf (i.val + 1))
      ∧ (∀ r, s.addrOf r = none ↔ ∀ i : Fin 62, s.roles[i] ≠ r) ∧
    (∀ (e : RouteEntry) (rest : List RouteEntry) (addr : Byte), s.dispatch.routeD = .idle → s.dispatch.routes = e :: rest →
        s.addrOf .diverter = some addr → s.dispatch.diverterOffline = false → s.dispatch.diverterHeard = true →
        s.port.monitor = .up → s.pumpRoute = { (s.offer .route addr (.order (.route e.serial e.lane))) with
          dispatch := { s.dispatch with routeD := .sending } })
      ∧ ((s.dispatch.routeD = .sending ∨ s.dispatch.routes = [] ∨ s.addrOf .diverter = none
          ∨ s.dispatch.diverterOffline = true ∨ s.dispatch.diverterHeard = false ∨ s.port.monitor = .down) →
        s.pumpRoute = s)
      ∧ (∀ (x : Notice) (rest : List Notice), s.mgmt.notices = x :: rest → s.port.monitor = .up →
          (s.port.source .notice).cond = .free →
          s.pumpNotice = s.offer .notice s.mgmt.latched.supervisor (.notice x))
      ∧ ((s.mgmt.notices = [] ∨ s.port.monitor = .down ∨ (s.port.source .notice).cond ≠ .free) → s.pumpNotice = s)
      ∧ s.endEvent = s.pumpRoute.pumpNotice

/-- R160, second case: a valid frame for another unit, or a broadcast, goes on as it arrived and nothing acts on it. R161,
R32, R48, R150: a frame addressed to the part is taken, ignored and counted where its source holds no role, its kind is none
of TAG, FINDING and DONE, it is a TAG from an inspection bench or the diverter, a FINDING from another than a bench, or a
DONE from another than an actuator. R64, R78, R194: so are a station's event of an unknown code or a wrong length, its SAMPLE
of a wrong length and its frame of another kind, and its last frame time is set. R64, R180: whose frame it is goes by the
Station Table's addresses and the Unit Role Table. R182: each tally is raised by one, and no other changes, up to 4294967295. -/
def Obligations.FramesThatNothingActsOn : Prop :=
  (∀ (s : State) (a : Byte) (i : StationNo) (j : Fin 62),
      (s.stationAt a = some i → a ≠ 0 ∧ (s.station i).cfg.addr = a)
        ∧ (s.stationAt a = none ↔ a = 0 ∨ ∀ i, (s.station i).cfg.addr ≠ a)
        ∧ s.roleOf (byteOf (j.val + 1)) = s.roles[j] ∧ (a = 0 ∨ 62 < a.toNat → s.roleOf a = .unassigned))
  ∧ (∀ s : State,
      let c := s.mgmt.tallies
      let up (n : Nat) : Nat := min (n + 1) 4294967295
      let counted (c : Tallies) : State := { s with mgmt := { s.mgmt with tallies := c } }
      s.ignored = counted { c with ignored := up c.ignored }
        ∧ s.tally .received = counted { c with received := up c.received }
        ∧ s.tally .checkFailures = counted { c with checkFailures := up c.checkFailures }
        ∧ s.tally .overruns = counted { c with overruns := up c.overruns }
        ∧ s.tally .notTaken = counted { c with notTaken := up c.notTaken }
        ∧ s.tally .clashes = counted { c with clashes := up c.clashes }
        ∧ s.tally .lateFindings = counted { c with lateFindings := up c.lateFindings }
        ∧ s.tally .pass = counted { c with pass := up c.pass }
        ∧ s.tally .condemn = counted { c with condemn := up c.condemn }
        ∧ s.tally .retest = counted { c with retest := up c.retest }
        ∧ s.tally .hold = counted { c with hold := up c.hold }
        ∧ s.tally .lost = counted { c with lost := up c.lost }
        ∧ s.tally .dropped = counted { c with dropped := up c.dropped }
        ∧ s.tally .noSpace = counted { c with noSpace := up c.noSpace })
  ∧ ∀ (s : State) (h : Hdr) (k : BitVec 4) (p : List Byte), s.Hears h p →
    (∀ dst, dst ≠ s.mgmt.latched.own → exec (.transitFrame dst h k p) s
        = .next ((s.heard h).passOn (composeFrame dst h.src (kindByte k h.spare h.taken) h.seq p) false))
      ∧ (s.stationAt h.src = none → k ≠ 9 → (s.roleOf h.src = .unassigned ∨ (k ≠ 1 ∧ k ≠ 2 ∧ k ≠ 5)
          ∨ (k = 1 ∧ (s.roleOf h.src = .inspection ∨ s.roleOf h.src = .diverter))
          ∨ (k = 2 ∧ s.roleOf h.src ≠ .inspection)
          ∨ (k = 5 ∧ s.roleOf h.src ≠ .markingPress ∧ s.roleOf h.src ≠ .scrapCell)) →
        exec (.ignoredFrame h k p) s = .next ((s.heard h).ignored.passOn (frameTo s h k p) true))
      ∧ ∀ i, s.stationAt h.src = some i →
        (((byteAt p 0).toNat, p.length) ∉ [(1, 18), (2, 1), (3, 2), (4, 1), (5, 1), (6, 1)] →
            exec (.unknownStationEvent h p) s = .next ((s.heardFrom h i).ignored.passOn (frameTo s h 4 p) true))
          ∧ (p.length ≠ 7 → exec (.sample h p) s = .next ((s.heardFrom h i).ignored.passOn (frameTo s h 3 p) true))
          ∧ (k ≠ 3 → k ≠ 4 → k ≠ 9 →
            exec (.ignoredFrame h k p) s = .next ((s.heardFrom h i).ignored.passOn (frameTo s h k p) true))

/-- R172: the valid frame that finds the ring DOWN, another unit's or an own one coming back, is handled as if the ring had
come UP before it (that UP and its frame are two events is the model's, log entry 11); at UP every station in RESYNC has an
ABORT in the Inject Queue, in ascending order, or, where its source is busy, in its next-frame slot (R163), no other source
changes, and the event ends with the head of the Route FIFO and the head notice sent (R157); nothing but the port and the
Route Dispatcher changes. -/
def Obligations.ValidFrameBringsTheRingUp : Prop :=
  (∀ (s : State) (dst : Byte) (h : Hdr) (k : BitVec 4) (p : List Byte), s.port.monitor = .down →
      State.Hears { s with port := { s.port with monitor := .up } } h p →
      exec (.transitFrame dst h k p) s = exec (.transitFrame dst h k p) s.ringUp)
    ∧ (∀ (s : State) (dst seq : Byte) (k : BitVec 4) (taken : Bool) (p : List Byte), s.port.monitor = .down →
      takePlace s.port.transit ≠ none → 1 ≤ s.mgmt.latched.own.toNat → s.mgmt.latched.own.toNat ≤ 62 →
      payloadFits p = true →
      exec (.ownFrameReturn dst k seq taken p) s = exec (.ownFrameReturn dst k seq taken p) s.ringUp)
    ∧ ∀ s : State, s.ringUp.port.monitor = .up
      ∧ (∃ p : RingPort, s.ringUp = State.endEvent { s with port := p }
          ∧ (let aborts : List OwnFrame := (List.finRange 8).filterMap fun i =>
              if (s.station i).state = .resync ∧ (s.port.source (.station i)).cond = .free then
                some ⟨.station i, (s.station i).cfg.addr, .order .abort, false⟩
              else none
            p = { s.port with monitor := .up, queue := s.port.queue ++ aborts, sources := p.sources })
          ∧ (∀ i, (s.station i).state = .resync → p.source (.station i) =
            let x := s.port.source (.station i)
            if x.cond = .free then ⟨.queued, x.slot⟩
            else ⟨x.cond, some ⟨.station i, (s.station i).cfg.addr, .order .abort, false⟩⟩)
          ∧ ∀ k, (∀ i, k = .station i → (s.station i).state ≠ .resync) → p.source k = s.port.source k)
      ∧ ∀ i, (s.station i).state = .resync →
          let abort : OwnFrame := ⟨.station i, (s.station i).cfg.addr, .order .abort, false⟩
          ((s.port.source (.station i)).cond = .free → abort ∈ s.ringUp.port.queue)
            ∧ ((s.port.source (.station i)).cond ≠ .free → (s.ringUp.port.source (.station i)).slot = some abort)

/-- R158, R170: a frame that begins to arrive takes a free place, or, with all four held, is lost and counted and is line
activity. Idle fill is line activity and nothing else. (That both commands of a frame's beginning are that one event, and
that a beginning in a free place leaves the time of the latest activity as it was, are the model's, log entries 8 and 9.) -/
def Obligations.BytesArriveOnTheInPair : Prop :=
  (∀ s : State, exec .idleFill s = .next { s with port := { s.port with lastActivity := s.clock } })
    ∧ ∀ s : State, ∀ c ∈ [Instr.frameBeginsToArrive, Instr.transitOverrun],
    (s.port.transit.length < 4 →
        exec c s = .next { s with port := { s.port with transit := s.port.transit ++ [.arriving] } })
      ∧ (4 ≤ s.port.transit.length →
        exec c s = .next { s with
          port := { s.port with lastActivity := s.clock }
          mgmt := { s.mgmt with
            tallies := { s.mgmt.tallies with overruns := min (s.mgmt.tallies.overruns + 1) 4294967295 } } })

/-- R159: a frame that fails its check leaves its place, is counted as received and as a check failure, and nothing else
sees it: bytes that are no valid frame, a frame whose source is outside 1..62, and one of more than 48 payload bytes, an own
one too. Bytes that pass their check are that frame (log entry 1). A frame that completes its arrival gives up its place, the
first that is arriving, every other place kept; with no place of its own it needs a free one, and with none free it is lost
as an overrun (log entry 8). -/
def Obligations.FailedFrameIsDropped : Prop :=
  (∀ u v : List Place, .arriving ∉ u → takePlace (u ++ .arriving :: v) = some (u ++ v)
      ∧ (u.length < 4 → takePlace u = some u) ∧ (4 ≤ u.length → takePlace u = none))
  ∧ ∀ (s : State) (bytes p : List Byte) (dst seq : Byte) (h : Hdr) (k : BitVec 4) (taken : Bool),
    let dropped : State := { s with
      port := { s.port with transit := (takePlace s.port.transit).getD [], lastActivity := s.clock }
      mgmt := { s.mgmt with tallies := { s.mgmt.tallies with
        received := min (s.mgmt.tallies.received + 1) 4294967295
        checkFailures := min (s.mgmt.tallies.checkFailures + 1) 4294967295 } } }
    let lost : State := { s with
      port := { s.port with lastActivity := s.clock }
      mgmt := { s.mgmt with tallies := { s.mgmt.tallies with
        overruns := min (s.mgmt.tallies.overruns + 1) 4294967295 } } }
    let f := composeFrame dst h.src (kindByte k h.spare h.taken) h.seq p
    (takePlace s.port.transit ≠ none →
        (((parseFrame bytes).all fun f => !f.passes) = true → exec (.checkFailure bytes) s = .next dropped)
          ∧ ((h.src = 0 ∨ 62 < h.src.toNat ∨ 48 < p.length) → exec (.transitFrame dst h k p) s = .next dropped)
          ∧ (48 < p.length → exec (.ownFrameReturn dst k seq taken p) s = .next dropped))
      ∧ exec (.checkFailure (dst :: h.src :: kindByte k h.spare h.taken :: h.seq :: byteOf p.length
          :: (p ++ [byteOf (f.check.toNat / 256), byteOf f.check.toNat]))) s = exec (.transitFrame dst h k p) s
      ∧ (takePlace s.port.transit = none →
        exec (.checkFailure bytes) s = .next lost ∧ exec (.transitFrame dst h k p) s = .next lost
          ∧ exec (.ownFrameReturn dst k seq taken p) s = .next lost)

/-- R159, R193: a frame with one byte changed, of its destination, source, sequence, length, payload or check, or of its kind
byte but for the taken mark, fails its check; the taken mark lies outside the check. The check is the remainder by x^16 + x^12 + x^5 + 1 of the bytes
before it, from 0xFFFF, each byte most significant bit first; a frame passes that carries it, a true length of at most 48
and a source of 1..62. R192: bits 0 to 3 of the kind byte are the kind, bits 4 to 6 spare, bit 7 the taken mark. -/
def Obligations.OneChangedByteFailsTheCheck : Prop :=
  let bit (r : Word16) : Word16 := if r.getLsbD 15 then (r <<< 1) ^^^ 0x1021 else r <<< 1
  (∀ f : Frame, f.passes = true ↔ f.check = crc (f.dst :: f.src :: (f.kind &&& 0x7F) :: f.seq :: f.len :: f.payload)
      ∧ f.len.toNat = f.payload.length ∧ f.len.toNat ≤ 48 ∧ 1 ≤ f.src.toNat ∧ f.src.toNat ≤ 62)
  ∧ crc [] = 0xFFFF ∧ (∀ (l : List Byte) (b : Byte), crc (l ++ [b]) = bit^[8] (crc l ^^^ (b.setWidth 16 <<< 8)))
  ∧ (∀ (dst src seq : Byte) (k : BitVec 4) (spare : BitVec 3) (taken : Bool) (p : List Byte),
      let f := composeFrame dst src (kindByte k spare taken) seq p
      (kindByte k spare taken).toNat = k.toNat + 16 * spare.toNat + (if taken then 128 else 0)
        ∧ f = ⟨dst, src, kindByte k spare taken, seq, byteOf p.length, p, f.check⟩
        ∧ (1 ≤ src.toNat → src.toNat ≤ 62 → p.length ≤ 48 → f.passes = true))
  ∧ ∀ f : Frame, f.passes = true →
    (∀ b, b ≠ f.dst → Frame.passes { f with dst := b } = false)
      ∧ (∀ b, b ≠ f.src → Frame.passes { f with src := b } = false)
      ∧ (∀ b, b ≠ f.seq → Frame.passes { f with seq := b } = false)
      ∧ (∀ b, b &&& 0x7F ≠ f.kind &&& 0x7F → Frame.passes { f with kind := b } = false)
      ∧ (∀ b, b ≠ f.len → Frame.passes { f with len := b } = false)
      ∧ (∀ w, w ≠ f.check → Frame.passes { f with check := w } = false)
      ∧ (∀ i b, i < f.payload.length → b ≠ byteAt f.payload i →
          Frame.passes { f with payload := f.payload.set i b } = false)
      ∧ Frame.passes { f with kind := f.kind ^^^ 0x80 } = true

/-- R164, R165: the arbiter gives a free OUT pair by the table of R165; an own frame leaves with the next sequence number,
which rises by one. A pair that is not free is not given. The transit frame that is ready is the oldest stored one; a frame
still arriving or being sent is not ready. R191, R195, R196, R197: the payload of an own frame is laid out as its order, its
notice or its reply has it, a member that is not present sent as zero; a REJECT or a REFUSE of a malformed serial carries its
length byte cut to 16 and its 16 character bytes. R191: a number stands most significant byte first. R196: the ten codes of
a status. -/
def Obligations.ArbiterByTheTable : Prop :=
  [Status.done, .busy, .badIndex, .badValue, .notReady, .absent, .wrongBank, .emptyBank, .notPermitted,
      .unknownRequest].map Status.code = [0, 1, 2, 3, 4, 5, 6, 7, 8, 9]
  ∧ (∀ n : Nat, beBytes 2 n = [byteOf (n / 256), byteOf n] ∧ beBytes 3 n = byteOf (n / 65536) :: beBytes 2 n
      ∧ beBytes 4 n = beBytes 2 (n / 65536) ++ beBytes 2 n)
  ∧ ∀ s : State,
    (s.port.out ≠ .idle → exec .transmitArbitration s = .next s)
      ∧ (s.port.out = .idle →
        (∀ f, storedFrame s.port.transit = some f → s.port.queue = [] →
            exec .transmitArbitration s = .next { s with
              port := { s.port with out := .transit f, transit := markLeaving s.port.transit, row := 0 } })
          ∧ (∀ f q rest, storedFrame s.port.transit = some f → s.port.queue = q :: rest → s.port.row < 4 →
            exec .transmitArbitration s = .next { s with
              port := { s.port with out := .transit f, transit := markLeaving s.port.transit, row := s.port.row + 1 } })
          ∧ (∀ q rest, s.port.queue = q :: rest → (storedFrame s.port.transit = none ∨ 4 ≤ s.port.row) →
            exec .transmitArbitration s = .next { s with
              port := { s.port with
                out := .own q (composeFrame q.dst s.mgmt.latched.own (kindByte q.body.kind 0 false) s.port.nextSeq
                  q.body.payload) false
                queue := rest, nextSeq := s.port.nextSeq + 1, row := 0 } })
          ∧ (storedFrame s.port.transit = none → s.port.queue = [] →
            exec .transmitArbitration s = .next { s with port := { s.port with row := 0 } }))
      ∧ (∀ u v : List Place, (∀ x ∈ u, ∀ g, x ≠ .stored g) → storedFrame u = none
        ∧ ∀ f, storedFrame (u ++ .stored f :: v) = some f ∧ markLeaving (u ++ .stored f :: v) = u ++ .leaving f :: v)
      ∧ ∀ (sr field : List Byte) (k x n : Nat) (m : RetesterMark) (why : Reason) (v : Verdict) (ov : Option Verdict)
          (entered : RecState) (hold : Option HoldReason) (t : TestResult) (tag code : Byte) (st : Status) (l : List Byte),
        let two (n : Nat) : List Byte := [byteOf (n / 256), byteOf n]
        let three (z : Int) : List Byte := let n := (z % 16777216).toNat; byteOf (n / 65536) :: two n
        let named := byteOf sr.length :: (sr ++ List.replicate (16 - sr.length) 0)
        let kind (v : Verdict) : List Byte := match v with
          | .pass => [1, 0]
          | .condemn why => [2, why.code]
          | .retest why => [3, why.code]
          | .hold why => [4, why.code]
        let bit (b : Bool) (x : Byte) : Byte := if b then x else 0
        let perm := t.expansion.bind (·.perm)
        let judged (figures : List Byte) : List Byte := 1 :: byteOf n :: (named ++ kind v
          ++ [entered.code, match hold with | none => 0 | some why => why.code, byteOf k] ++ figures)
        let notice (i : RecNo) (o : Option TestResult) := (Body.notice (.verdict i sr v entered hold k o)).payload
        (Body.order (.start sr)).payload = 1 :: named
          ∧ (Body.order (.step k x)).payload = 2 :: byteOf k :: two x
          ∧ ((Body.order .vent).payload, (Body.order .release).payload, (Body.order .abort).payload) = ([3], [4], [5])
          ∧ (Body.order (.reject field)).payload = 6 :: field
          ∧ (Body.order (.stamp sr m k x)).payload = 7 :: (named ++ [m.c0, m.c1, m.c2, m.c3, byteOf k, byteOf x])
          ∧ (Body.order (.refuse field)).payload = 8 :: field
          ∧ (Body.order (.condemn sr why)).payload = 9 :: (named ++ [why.code])
          ∧ (∀ y ∈ [(Lane.test, (1 : Byte)), (.mark, 2), (.scrap, 3), (.hold, 4)],
            (Body.order (.route sr y.1)).payload = 10 :: (named ++ [y.2]))
          ∧ (∀ i : RecNo, i.val = n → notice i none = judged (List.replicate 17 0)
            ∧ notice i (some t) = judged
              ([bit true 1 + bit t.pressures.isSome 2 + bit t.expansion.isSome 4 + bit perm.isSome 8,
                  byteOf t.station, byteOf t.attempt, t.gen]
                ++ (match t.pressures with | none => [0, 0, 0, 0] | some z => two z.pmin ++ two z.pmax)
                ++ (match t.expansion with
                  | none => [0, 0, 0, 0]
                  | some e => three e.et ++ [bit e.flags.negative 1 + bit e.flags.exceeds 2])
                ++ (match perm with | none => [0, 0, 0, 0, 0] | some z => three z.ep ++ two z.ratio))
            ∧ ∀ y ∈ [(ListId.mark, (1 : Byte)), (.scrap, 2)], (Body.notice (.lost i sr ov y.1)).payload
              = 2 :: byteOf n :: (named ++ (match ov with | none => [0, 0] | some v => kind v) ++ [y.2]))
          ∧ (Body.reply ⟨tag, code, st, l⟩).payload = tag :: code :: st.code :: (if st = .done then l else [])
          ∧ ((Body.order .vent).kind, (Body.reply ⟨tag, code, st, l⟩).kind, (Body.notice (.lost 0 sr ov .mark)).kind)
            = (8, 10, 11)
          ∧ (field.length = 17 → serialOf field = none →
            echoField field = byteOf (min (byteAt field 0).toNat 16) :: field.drop 1)
          ∧ (goodSerial sr → serialOf field = some sr → echoField field = named)

/-- R164, R171: when the last byte of an own frame has left the OUT pair, its source is on the ring and the frame is in
flight with a return deadline 100 ms later; a frame orphaned by ring loss is not. R158: when the last byte of a forwarded
transit frame has, its place is freed. With no such frame being sent nothing happens. -/
def Obligations.FrameLeavesTheOutPair : Prop :=
  ∀ s : State,
    (∀ q w, s.port.out = .own q w false → exec .frameSent s = .next { s with port := { s.port with
        out := .idle
        sources := s.port.sources.set q.src.idx.val ⟨.onRing, (s.port.source q.src).slot⟩ q.src.idx.isLt
        flights := s.port.flights ++ [⟨w.seq, q, s.clock + 100⟩] } })
      ∧ (∀ q w, s.port.out = .own q w true → exec .frameSent s = .next { s with port := { s.port with out := .idle } })
      ∧ ((∀ q w b, s.port.out ≠ .own q w b) → exec .frameSent s = .next s)
      ∧ (∀ f, s.port.out = .transit f → exec .transitFrameForwarded s = .next { s with port := { s.port with
        out := .idle, transit := dropLeaving s.port.transit } })
      ∧ ((∀ f, s.port.out ≠ .transit f) → exec .transitFrameForwarded s = .next s)
      ∧ ∀ (u v : List Place) (f : Frame), (∀ x ∈ u, ∀ g, x ≠ .leaving g) → dropLeaving (u ++ .leaving f :: v) = u ++ v

/-- R166, R167, R168, R169: an own frame that returns valid while the ring is UP, by what is found in flight: a stray is
counted as ignored; one taken has its outcome reported; an ORDER not taken at its first passage is injected again and its
source not told; any other not taken has its outcome reported. A return deadline that is reached is a return not taken; one
that is not, or of no frame in flight, is nothing. (That an order injected again leaves the list of frames in flight until it
is sent is the model's, log entry 10. An own frame that finds the ring DOWN: ValidFrameBringsTheRingUp.) -/
def Obligations.OwnFrameReturnsOrNot : Prop :=
  (∀ o r n, (Body.order o).isOrder = true ∧ (Body.reply r).isOrder = false ∧ (Body.notice n).isOrder = false)
  ∧ ∀ s : State,
    let fails (c : Instr) (x : Flight) (t : State) : Prop :=
      (x.frame.body.isOrder = true → x.frame.reinjected = false →
          exec c s = .next (State.endEvent { t with port := { t.port with
            flights := t.port.flights.erase x
            queue := t.port.queue ++ [{ x.frame with reinjected := true }]
            sources := t.port.sources.set x.frame.src.idx.val
              ⟨.queued, (t.port.source x.frame.src).slot⟩ x.frame.src.idx.isLt } }))
        ∧ ((x.frame.body.isOrder = false ∨ x.frame.reinjected = true) →
          exec c s = .next (t.outcome x false).endEvent)
    (∀ (dst seq : Byte) (k : BitVec 4) (taken : Bool) (p : List Byte),
        takePlace s.port.transit ≠ none → s.port.monitor = .up → 1 ≤ s.mgmt.latched.own.toNat →
        s.mgmt.latched.own.toNat ≤ 62 → payloadFits p = true →
        let c := Instr.ownFrameReturn dst k seq taken p
        let s1 := s.heard ⟨s.mgmt.latched.own, seq, taken, 0⟩
        let same (x : Flight) : Bool := x.seq == seq && x.frame.body.kind == k && x.frame.dst == dst
        (s.port.flights.find? same = none → exec c s = .next s1.ignored.endEvent)
          ∧ ∀ x, s.port.flights.find? same = some x →
            (taken = true → exec c s = .next (s1.outcome x true).endEvent)
              ∧ (taken = false → fails c x (s1.tally .notTaken)))
      ∧ ∀ seq : Byte,
        (s.port.flights.find? (fun x => x.seq == seq) = none → exec (.returnDeadline seq) s = .next s.endEvent)
          ∧ ∀ x, s.port.flights.find? (fun x => x.seq == seq) = some x →
            (¬ (s.clock - x.deadline).toNat < 2147483648 → exec (.returnDeadline seq) s = .next s.endEvent)
              ∧ ((s.clock - x.deadline).toNat < 2147483648 → fails (.returnDeadline seq) x (s.tally .notTaken))

/-- R169: a known outcome takes the frame from the list of frames in flight, frees its source or queues the frame of its
slot, and is reported to its owner, told as taken, or as not taken, which for an ORDER is the second time. R80: a station not
reached has its test ended as SILENT, is FAULTED and has ABORT offered. R138, R139: a ROUTE taken leaves the FIFO; one not
taken leaves it too, turns the diverter offline, and holds its record, still the same and pending, as ROUTE UNCONFIRMED.
R149: a REFUSE. R151, R152: a STAMP or CONDEMN not taken holds the record in flight as unconfirmed and turns the actuator
offline; taken, it changes nothing. R155: the report of a stale order clears its mark alone. R177, R185: a REPLY, a NOTICE. A
dispatcher or the Responder that waits for no report is not changed by one, and a dispatcher that waits for another order of
its unit, a STAMP or CONDEMN of another serial or a REFUSE, is not either, whatever the report says (log entry 13). -/
def Obligations.OutcomeIsReported : Prop :=
  ∀ (s : State) (x : Flight) (taken : Bool),
    (let k := x.frame.src
     let p := s.port
     s.outcome x taken = State.report x.frame taken { s with port :=
      match (p.source k).slot with
      | none => { p with
          flights := p.flights.erase x, sources := p.sources.set k.idx.val ⟨.free, none⟩ k.idx.isLt }
      | some q => { p with
          flights := p.flights.erase x, sources := p.sources.set k.idx.val ⟨.queued, none⟩ k.idx.isLt,
          queue := p.queue ++ [q] } })
    ∧ (∀ i dst b j, s.report ⟨.station i, dst, b, j⟩ true = s)
    ∧ (∀ i dst j, s.report ⟨.station i, dst, .order .abort, j⟩ false = s)
    ∧ (∀ i dst b j, b ≠ .order .abort →
        let silenced (t : State) : State :=
          (t.updStation i fun st => { st with
              state := .faulted, record := none, deadline := none, extensionEnd := none, aborted := false,
              leaving := false, sealPending := false }).offer (.station i) (s.station i).cfg.addr (.order .abort)
        ((s.station i).state.watched = true → (s.station i).record = none →
            s.report ⟨.station i, dst, b, j⟩ false = silenced s)
          ∧ ((s.station i).state.inCycle = true → ∀ n r, s.Tests i n r →
            s.report ⟨.station i, dst, b, j⟩ false = silenced (s.endTest i .silent)))
    ∧ (∀ i dst b j, b ≠ .order .abort → (s.station i).state.watched = false →
        s.report ⟨.station i, dst, b, j⟩ false = s)
    ∧ (∀ dst b j, s.dispatch.routeStale = true →
        s.report ⟨.route, dst, b, j⟩ taken = { s with dispatch := { s.dispatch with routeStale := false } })
    ∧ (∀ dst b j e rest, s.dispatch.routeStale = false → s.dispatch.routeD = .sending → s.dispatch.routes = e :: rest →
        let lost (d : DispatchUnit) : DispatchUnit := { d with routeD := .idle, routes := rest, diverterOffline := true }
        let held (n : RecNo) (r : Record) (d : DispatchUnit) : State :=
          { s.putRec n (some { r with state := .hold, holdReason := some .routeUnconfirmed }) with dispatch := lost d }
        let failed := s.report ⟨.route, dst, b, j⟩ false
        s.report ⟨.route, dst, b, j⟩ true = { s with dispatch := { s.dispatch with routeD := .idle, routes := rest } }
          ∧ (e.record = none → failed = { s with dispatch := lost s.dispatch })
          ∧ ∀ n seq, e.record = some (n, seq) →
            ((∀ r, s.getRec n = some r → r.openSeq ≠ seq ∨ (r.state ≠ .markPending ∧ r.state ≠ .scrapPending)) →
                failed = { s with dispatch := lost s.dispatch })
              ∧ ∀ r, s.getRec n = some r → r.openSeq = seq →
                (r.state = .markPending → failed
                    = held n r { s.dispatch with markList := s.dispatch.markList.filter fun m => m != n })
                  ∧ (r.state = .scrapPending → failed
                    = held n r { s.dispatch with scrapList := s.dispatch.scrapList.filter fun m => m != n }))
    ∧ (∀ dst b j, s.dispatch.routeStale = false → s.dispatch.routeD = .idle → s.report ⟨.route, dst, b, j⟩ taken = s)
    ∧ (∀ (a : Actuator) dst o j, s.dispatch.stale a = false →
        (s.dispatch.disp a = .idle → s.report ⟨a.src, dst, .order o, j⟩ taken = s)
          ∧ ∀ c r, s.dispatch.disp a = .acting c → s.getRec c.record = some r →
            let acts : Prop := match a with
              | .press => ∃ m month yy, o = .stamp c.serial m month yy
              | .scrapCell => ∃ why, o = .condemn c.serial why
            (acts → s.report ⟨a.src, dst, .order o, j⟩ false
                = { s.putRec c.record (some { r with state := .hold, holdReason := some a.unconfirmedReason }) with
                  dispatch := (s.dispatch.setOffline a true).setDisp a .idle })
              ∧ (¬ acts → s.report ⟨a.src, dst, .order o, j⟩ false = s)
              ∧ s.report ⟨a.src, dst, .order o, j⟩ true = s)
    ∧ (∀ (a : Actuator) dst o j sr, s.dispatch.stale a = false → s.dispatch.disp a = .refusing sr →
        (∀ field, o ≠ .refuse field) → s.report ⟨a.src, dst, .order o, j⟩ taken = s)
    ∧ (∀ dst o j, s.dispatch.markStale = true →
        s.report ⟨.mark, dst, .order o, j⟩ taken = { s with dispatch := { s.dispatch with markStale := false } })
    ∧ (∀ dst o j, s.dispatch.scrapStale = true →
        s.report ⟨.scrap, dst, .order o, j⟩ taken = { s with dispatch := { s.dispatch with scrapStale := false } })
    ∧ (∀ dst field j sr, s.dispatch.markStale = false → s.dispatch.markD = .refusing sr →
        s.report ⟨.mark, dst, .order (.refuse field), j⟩ taken = { s with dispatch := { s.dispatch with
          markD := .idle, pressOffline := s.dispatch.pressOffline || !taken } })
    ∧ (∀ dst field j sr, s.dispatch.scrapStale = false → s.dispatch.scrapD = .refusing sr →
        s.report ⟨.scrap, dst, .order (.refuse field), j⟩ taken = { s with dispatch := { s.dispatch with
          scrapD := .idle, scrapOffline := s.dispatch.scrapOffline || !taken } })
    ∧ (∀ dst b j, s.mgmt.responder = .replyPending →
        s.report ⟨.reply, dst, b, j⟩ taken = { s with mgmt := { s.mgmt with responder := .idle } })
    ∧ (∀ dst b j, s.mgmt.responder ≠ .replyPending → s.report ⟨.reply, dst, b, j⟩ taken = s)
    ∧ (∀ dst b j, s.report ⟨.notice, dst, b, j⟩ taken
        = { s with mgmt := { s.mgmt with notices := s.mgmt.notices.drop 1 } })

/-! ## Requests: admission, reads -/

/-- R176: a REQUEST while another is being served is not taken; one without a tag and a code is ignored; one from another
than the supervisor, of an unknown code, or of a length its code does not have is answered with its status, and changes
nothing else. R194, R199: so is a service value or a tally action other than 0 and 1, which is BAD VALUE (or BAD INDEX, where
the station's index lies outside 0..7 too: log entry 28). -/
def Obligations.RequestAdmission : Prop :=
  ∀ (s : State) (h : Hdr) (p : List Byte), s.Hears h p →
    let c := Instr.unknownRequest h p
    let lengths := [2, 29, 2, 12, 0, 0, 0, 1, 2, 1, 7, 2, 1, 20, 19, 3, 0, 0, 2, 0, 8, 0]
    (s.mgmt.responder ≠ .idle → exec c s = .next ((s.heard h).passOn (frameTo s h 9 p) false))
      ∧ (s.mgmt.responder = .idle → p.length < 2 →
        exec c s = .next ((s.heard h).ignored.passOn (frameTo s h 9 p) true))
      ∧ ∀ tag code args, p = tag :: code :: args → s.mgmt.responder = .idle →
        (h.src ≠ s.mgmt.latched.supervisor →
            exec c s = .next (s.served h tag code args .notPermitted [] (s.heard h)))
          ∧ (h.src = s.mgmt.latched.supervisor → (code = 0 ∨ 22 < code.toNat) →
            exec c s = .next (s.served h tag code args .unknownRequest [] (s.heard h)))
          ∧ (h.src = s.mgmt.latched.supervisor → 1 ≤ code.toNat → code.toNat ≤ 22 →
            args.length ≠ lengths.getD (code.toNat - 1) 0 →
            exec c s = .next (s.served h tag code args .badValue [] (s.heard h)))
          ∧ (h.src = s.mgmt.latched.supervisor → ∀ x y : Byte, args = [x, y] →
            (code = 12 → 1 < y.toNat → x.toNat < 8 →
                exec c s = .next (s.served h tag code args .badValue [] (s.heard h)))
              ∧ (code = 12 → 1 < y.toNat → 8 ≤ x.toNat →
                exec c s = .next (s.served h tag code args .badValue [] (s.heard h))
                  ∨ exec c s = .next (s.served h tag code args .badIndex [] (s.heard h)))
              ∧ (code = 19 → 1 < x.toNat → exec c s = .next (s.served h tag code args .badValue [] (s.heard h))))

/-- R10, R63, R180, R188, R197: READ TYPE ENTRY and READ MATCH ENTRY answer the entry's bytes, from a bank in any state; READ
BANK STATUS each bank's state, generation, references and numbers of valid entries; READ UNIT ROLE the role's code; READ
STATION ENTRY the entry's bytes with the serial of the record under test there; READ OPTIONS the stored values (the factory
values where none are held), whether the store passed its check, the latched values, the Calendar and the gate. None changes
anything; a bank, an index or an address outside its range is BAD INDEX. The bytes of a type entry (27), a match entry (10)
and a station entry (36) stand in the order of R197, with the codes of a bank, a bank's state and a station's state in R196.
The zeros for an unset Calendar, for absent Pmin and Pmax and for a
deadline already reached are the model's (log entry 17), as is the order of a type entry's fields (log entry 24). -/
def Obligations.ReadsAnswerWhatIsHeld : Prop :=
  let two (n : Nat) : List Byte := [byteOf (n / 256), byteOf n]
  let bit (b : Bool) (x : Byte) : Byte := if b then x else 0
  (∀ e : TypeEntry, e.bytes = bit e.valid 1 :: (two e.pt ++ two e.band ++ two e.ree
      ++ [byteOf e.permLimit, byteOf e.steps, byteOf e.stepTimeout, byteOf e.zeroTimeout] ++ two e.holdTime
      ++ [byteOf e.stabBand, byteOf e.window, byteOf e.maxExtension, byteOf e.ventTimeout] ++ two e.settleTime
      ++ [byteOf e.retestLimit, byteOf e.tareLossLimit, byteOf e.serviceLife, e.required]
      ++ two e.condemnMask.toNat ++ two e.holdMask.toNat) ∧ e.bytes.length = 27)
  ∧ (∀ m : MatchEntry, m.bytes = bit m.valid 1 :: (two m.makerKey.toNat ++ two m.makerMask.toNat ++ two m.modelKey.toNat
      ++ two m.modelMask.toNat ++ [byteOf m.code]) ∧ m.bytes.length = 10)
  ∧ (∀ (st : Station) (clock : Clock) (serial : Option (List Byte)),
      let sr := serial.getD []
      let left := match st.deadline with
        | none => 4294967295
        | some d => if (clock - d).toNat < 2147483648 then 0 else (d - clock).toNat
      st.bytes clock serial = st.cfg.addr :: (two st.cfg.k ++ two st.cfg.period
          ++ [byteOf st.cfg.silence, st.state.code, match st.record with | none => 0xFF | some n => byteOf n]
          ++ (byteOf sr.length :: (sr ++ List.replicate (16 - sr.length) 0))
          ++ [byteOf st.step, bit st.sealPending 1 + bit st.aborted 2 + bit st.leaving 4 + bit st.pressures.isSome 8,
            byteOf st.gaps]
          ++ two (left / 65536) ++ two left
          ++ match st.pressures with | none => [0, 0, 0, 0] | some z => two z.pmin ++ two z.pmax)
        ∧ (sr.length ≤ 16 → (st.bytes clock serial).length = 36))
  ∧ [StState.outOfService, .vacant, .seated, .ramping, .holding, .venting, .settling, .releasing, .faulted,
      .resync].map StState.code = [1, 2, 3, 4, 5, 6, 7, 8, 9, 10]
  ∧ [BankState.active, .standby, .retiring].map BankState.code = [1, 2, 3] ∧ [BankId.a, .b].map BankId.code = [1, 2]
  ∧ ∀ (s : State) (h : Hdr) (tag a b : Byte) (k : BankId) (c : Fin 64) (i : Fin 62) (j : StationNo),
    let bank (x : Bank) : List Byte :=
      [x.state.code, x.gen, byteOf x.refs, byteOf (x.matchTable.toList.countP (·.valid)),
        byteOf (x.typeTable.toList.countP (·.valid))]
    let values (o : Options) : List Byte :=
      [o.own, o.supervisor, o.mark.c0, o.mark.c1, o.mark.c2, o.mark.c3, byteOf o.enabled,
        if o.gapMode = .strict then 1 else 0]
    let answered (x : Instr) (code : Byte) (args : List Byte) (st : Status) (l : List Byte) : Prop :=
      s.Serves h (tag :: code :: args) → exec x s = .next (s.served h tag code args st l (s.heard h))
    answered (.readTypeEntry h tag [k.code, byteOf c]) 1 [k.code, byteOf c] .done (s.banks.get k).typeTable[c].bytes
      ∧ answered (.readMatchEntry h tag [k.code, byteOf c]) 3 [k.code, byteOf c] .done (s.banks.get k).matchTable[c].bytes
      ∧ (((a ≠ 1 ∧ a ≠ 2) ∨ 64 ≤ b.toNat) → answered (.readTypeEntry h tag [a, b]) 1 [a, b] .badIndex []
        ∧ answered (.readMatchEntry h tag [a, b]) 3 [a, b] .badIndex [])
      ∧ answered (.readBankStatus h tag []) 7 [] .done (bank s.banks.a ++ bank s.banks.b)
      ∧ answered (.readUnitRole h tag [byteOf (i.val + 1)]) 8 [byteOf (i.val + 1)] .done [s.roles[i].code]
      ∧ ((a = 0 ∨ 62 < a.toNat) → answered (.readUnitRole h tag [a]) 8 [a] .badIndex [])
      ∧ (∀ n r, s.Tests j n r → answered (.readStationEntry h tag [byteOf j]) 10 [byteOf j] .done
          ((s.station j).bytes s.clock (some r.serial)))
      ∧ ((s.station j).record = none → answered (.readStationEntry h tag [byteOf j]) 10 [byteOf j] .done
          ((s.station j).bytes s.clock none))
      ∧ (8 ≤ a.toNat → answered (.readStationEntry h tag [a]) 10 [a] .badIndex [])
      ∧ answered (.readOptions h tag []) 20 [] .done
          (values (match s.mgmt.store with | .holds o => o | _ => ⟨1, 62, ⟨0x20, 0x20, 0x20, 0x20⟩, 8, .lenient⟩)
            ++ [if s.mgmt.storeSound then 1 else 0] ++ values s.mgmt.latched
            ++ (match s.mgmt.calendar with | none => [0, 0, 0] | some c => byteOf c.month :: beBytes 2 c.year)
            ++ [if s.dispatch.gate = .gateOpen then 1 else 0])

/-- R179, R198: READ RECORD by number or by serial answers the named part and changes nothing; part 1 names the station of a
record ON TEST and no other; a free number or a serial that no record holds is ABSENT, a number above 127 BAD INDEX, and a
malformed serial, an unknown selector or, of a named record, an unknown part BAD VALUE. The 44 bytes of each part stand in
the order of R198's table with the codes of R196, an absent field as its absent value and a result's absent member as zero
(the generation of an absent bank as 0 is the model's, log entry 17). Here and in every statement over a serial field, the field
is any 17 bytes that hold the serial: bytes beyond its length are not read (R191). -/
def Obligations.RecordIsRead : Prop :=
  let two (n : Nat) : List Byte := [byteOf (n / 256), byteOf n]
  let three (z : Int) : List Byte := let n := (z % 16777216).toNat; byteOf (n / 65536) :: two n
  let bit (b : Bool) (x : Byte) : Byte := if b then x else 0
  let reason (o : Option Reason) : Byte := match o with | none => 0 | some why => why.code
  let reading (o : Option Reading) : List Byte := match o with | none => [0, 0, 0, 0] | some z => two z.level ++ two z.temp
  (∀ (n : RecNo) (i : Option StationNo) (r : Record),
      r.part1 n i = byteOf n :: (two (r.openSeq.toNat / 65536) ++ two r.openSeq.toNat
        ++ (byteOf r.serial.length :: (r.serial ++ List.replicate (16 - r.serial.length) 0))
        ++ [r.state.code, match r.seatedFrom with | none => 0 | some .inspected => 2 | some .retestWait => 4,
          match i with | none => 0xFF | some i => byteOf i]
        ++ two r.maker.toNat ++ two r.model.toNat ++ two r.year ++ two (r.tagTare.getD 0)
        ++ [match r.typeCode with | none => 0xFF | some c => byteOf c]
        ++ (match r.bank with | none => [0, 0] | some ⟨.a, g⟩ => [1, g] | some ⟨.b, g⟩ => [2, g])
        ++ [byteOf r.attempts, byteOf r.retestsLeft, reason r.lastAbort]
        ++ (match r.verdict with
          | none => [0, 0]
          | some .pass => [1, 0]
          | some (.condemn why) => [2, why.code]
          | some (.retest why) => [3, why.code]
          | some (.hold why) => [4, why.code])
        ++ [match r.holdReason with | none => 0 | some why => why.code, byteOf r.passedBy, byteOf r.clash])
      ∧ r.part2 n = byteOf n :: (two (r.openSeq.toNat / 65536) ++ two r.openSeq.toNat ++ [r.items] ++ two r.findings.toNat
        ++ two (r.measuredTare.getD 0) ++ [r.weight.code]
        ++ match r.result with
          | none => List.replicate 33 0
          | some t =>
            let perm := t.expansion.bind (·.perm)
            [bit true 1 + bit t.pressures.isSome 2 + bit t.total.isSome 4 + bit t.settled.isSome 8
                + bit t.expansion.isSome 16 + bit perm.isSome 32,
              byteOf t.station, byteOf t.attempt, t.gen]
            ++ reading (some t.zero) ++ reading t.total ++ reading t.settled
            ++ (match t.pressures with | none => [0, 0, 0, 0] | some z => two z.pmin ++ two z.pmax)
            ++ [byteOf t.gaps]
            ++ (match t.expansion with | none => [0, 0, 0] | some e => three e.et)
            ++ (match perm with
              | none => [0, 0, 0, 0, 0, 0, 0, 0]
              | some z => three z.ep ++ three z.elastic ++ two z.ratio)
            ++ [match t.expansion with | none => 0 | some e => bit e.flags.negative 1 + bit e.flags.exceeds 2])
      ∧ (r.serial.length ≤ 16 → (r.part1 n i).length = 44 ∧ (r.part2 n).length = 44))
  ∧ [RecState.identified, .inspected, .onTest, .retestWait, .markPending, .atPress, .scrapPending, .atScrapCell, .hold,
      .marked, .scrapped, .lost].map RecState.code = [1, 2, 3, 4, 5, 6, 7, 8, 9, 10, 11, 12]
  ∧ [Reason.finding, .weightLoss, .life, .burst, .overpressure, .elastic, .permanent, .seal, .sensor, .zeroUnstable,
      .stepTimeout, .pressureLost, .unstable, .sampleGaps, .ventTimeout, .superseded, .silent, .ringLoss, .aborted,
      .noExpansion, .unknownType, .tagDate, .noTare].map Reason.code
    = [1, 2, 3, 4, 5, 6, 7, 8, 9, 10, 11, 12, 13, 14, 15, 16, 17, 18, 19, 20, 21, 22, 23]
  ∧ [HoldReason.unknownType, .tagDate, .finding, .noTare, .retestsExhausted, .listFull, .pressOffline, .scrapOffline,
      .routeUnconfirmed, .misroute, .stampFault, .stampUnconfirmed, .condemnFault, .condemnUnconfirmed].map HoldReason.code
    = [1, 2, 3, 4, 5, 6, 7, 8, 9, 10, 11, 12, 13, 14]
  ∧ [WeightCheck.notDone, .ok, .loss, .noTagTare].map WeightCheck.code = [0, 1, 2, 3]
  ∧
  ∀ (s : State) (h : Hdr) (tag part x : Byte) (n : RecNo) (field sr : List Byte) (r : Record), field.length = 17 →
    let byNumber := 0 :: part :: byteOf n :: field
    let bySerial := 1 :: part :: x :: field
    let answer (args : List Byte) (st : Status) (l : List Byte) (t : State) : Prop :=
      exec (.readRecord h tag args) s = .next (s.served h tag 14 args st l t)
    (∀ args, (args = byNumber ∧ s.getRec n = some r) ∨ (args = bySerial ∧ serialOf field = some sr ∧ s.Holds sr n r) →
        s.Serves h (tag :: 14 :: args) →
        (part = 1 → r.state ≠ .onTest → answer args .done (r.part1 n none) (s.heard h))
          ∧ (part = 1 → r.state = .onTest → ∀ i, (s.station i).record = some n →
            (∀ j, (s.station j).record = some n → j = i) → answer args .done (r.part1 n (some i)) (s.heard h))
          ∧ (part = 2 → answer args .done (r.part2 n) (s.heard h))
          ∧ (part ≠ 1 → part ≠ 2 → answer args .badValue [] (s.heard h)))
      ∧ ((part = 1 ∨ part = 2) →
        (s.Serves h (tag :: 14 :: byNumber) → s.getRec n = none → answer byNumber .absent [] (s.heard h))
          ∧ (s.Serves h (tag :: 14 :: bySerial) → serialOf field = some sr → s.Lacks sr → answer bySerial .absent [] (s.heard h))
          ∧ (s.Serves h (tag :: 14 :: 0 :: part :: x :: field) → 128 ≤ x.toNat →
            answer (0 :: part :: x :: field) .badIndex [] (s.heard h))
          ∧ (s.Serves h (tag :: 14 :: 1 :: part :: x :: field) → serialOf field = none →
            answer (1 :: part :: x :: field) .badValue [] (s.heard h))
          ∧ ∀ y : Byte, 2 ≤ y.toNat → s.Serves h (tag :: 14 :: y :: part :: x :: field) →
            answer (y :: part :: x :: field) .badValue [] (s.heard h))

/-- R183: READ TALLIES answers the seven tallies of the named group as they stand, the request's own frame among those
received; with clear those seven, and no other, are then 0. An unknown group is BAD VALUE. -/
def Obligations.TalliesAreReadAndCleared : Prop :=
  ∀ (s : State) (h : Hdr) (tag : Byte) (g : Byte),
    let t := (s.heard h).mgmt.tallies
    let one := beBytes 4 t.received ++ beBytes 4 t.checkFailures ++ beBytes 4 t.overruns ++ beBytes 4 t.notTaken
      ++ beBytes 4 t.ignored ++ beBytes 4 t.clashes ++ beBytes 4 t.lateFindings
    let two := beBytes 4 t.pass ++ beBytes 4 t.condemn ++ beBytes 4 t.retest ++ beBytes 4 t.hold ++ beBytes 4 t.lost
      ++ beBytes 4 t.dropped ++ beBytes 4 t.noSpace
    let cleared (t' : Tallies) : State := { s.heard h with mgmt := { (s.heard h).mgmt with tallies := t' } }
    (s.Serves h [tag, 19, 0, 1] →
        exec (.readTallies h tag 1) s = .next (s.served h tag 19 [0, 1] .done one (s.heard h)))
      ∧ (s.Serves h [tag, 19, 0, 2] →
        exec (.readTallies h tag 2) s = .next (s.served h tag 19 [0, 2] .done two (s.heard h)))
      ∧ (s.Serves h [tag, 19, 1, 1] → exec (.clearingReadOfTallies h tag 1) s = .next (s.served h tag 19 [1, 1] .done one
          (cleared ⟨0, 0, 0, 0, 0, 0, 0, t.pass, t.condemn, t.retest, t.hold, t.lost, t.dropped, t.noSpace⟩)))
      ∧ (s.Serves h [tag, 19, 1, 2] → exec (.clearingReadOfTallies h tag 2) s = .next (s.served h tag 19 [1, 2] .done two
          (cleared ⟨t.received, t.checkFailures, t.overruns, t.notTaken, t.ignored, t.clashes, t.lateFindings,
            0, 0, 0, 0, 0, 0, 0⟩)))
      ∧ (g ≠ 1 → g ≠ 2 →
        (s.Serves h [tag, 19, 0, g] →
            exec (.readTallies h tag g) s = .next (s.served h tag 19 [0, g] .badValue [] (s.heard h)))
          ∧ (s.Serves h [tag, 19, 1, g] →
            exec (.clearingReadOfTallies h tag g) s = .next (s.served h tag 19 [1, g] .badValue [] (s.heard h))))

/-! ## Type banks (chapter 1) -/

/-- R3, R4: resolution gives a type code exactly when the lowest valid match entry whose keys agree with the tag's codes in
the masked positions names that code and the type entry of that code is valid. -/
def Obligations.FirstMatchingEntryDecidesTheType : Prop :=
  ∀ (b : Bank) (maker model : Word16) (c : TypeCode),
    let hit (i : Fin 64) : Prop := b.matchTable[i].valid = true
      ∧ maker &&& b.matchTable[i].makerMask = b.matchTable[i].makerKey &&& b.matchTable[i].makerMask
      ∧ model &&& b.matchTable[i].modelMask = b.matchTable[i].modelKey &&& b.matchTable[i].modelMask
    b.resolve maker model = some c
      ↔ ∃ i, hit i ∧ (∀ j, j < i → ¬ hit j) ∧ b.matchTable[i].code = c ∧ b.typeTable[c].valid = true

/-- R6, R7, R8, R197: WRITE TYPE ENTRY into a STANDBY bank stores the offered entry with every field that clamps brought to
the nearer end of its range, or clears the entry; into another bank, or with a test pressure, expansion limit or permanent
limit that is refused, it changes nothing; a bank that is neither A nor B or a code above 63 is BAD INDEX. The entry offered
is read from the 27 bytes that READ TYPE ENTRY would give. -/
def Obligations.TypeEntryIsWritten : Prop :=
  ∀ (s : State) (h : Hdr) (tag : Byte) (k : BankId) (c : TypeCode) (o : TypeEntry), o.Fits →
    let args := k.code :: byteOf c :: o.bytes
    let b := s.banks.get k
    let e : TypeEntry := { o with
      band := min o.band (o.pt / 10), permLimit := min o.permLimit 200, steps := min (max o.steps 1) 16,
      stepTimeout := min (max o.stepTimeout 5) 120, zeroTimeout := min (max o.zeroTimeout 5) 120,
      holdTime := min (max o.holdTime 10) 600, stabBand := min (max o.stabBand 1) 255,
      window := min (max o.window 3) 16, maxExtension := min o.maxExtension 120,
      ventTimeout := min (max o.ventTimeout 5) 120, settleTime := min (max o.settleTime 5) 300,
      retestLimit := min o.retestLimit 3, tareLossLimit := min o.tareLossLimit 200, serviceLife := min o.serviceLife 99 }
    let refused : Prop := o.pt < 1000 ∨ 60000 < o.pt ∨ o.ree = 0 ∨ o.permLimit = 0
    let stored (x : TypeEntry) : State :=
      { s.heard h with banks := s.banks.set k { b with typeTable := b.typeTable.set c.val x c.isLt } }
    let answer (st : Status) (l : List Byte) (t : State) : Prop :=
      exec (.writeTypeEntry h tag args) s = .next (s.served h tag 2 args st l t)
    (s.Serves h (tag :: 2 :: args) →
        (b.state = .active → answer .wrongBank [] (s.heard h))
          ∧ (b.state = .retiring → answer .busy [] (s.heard h))
          ∧ (b.state = .standby → o.valid = true → refused → answer .badValue [] (s.heard h))
          ∧ (b.state = .standby → o.valid = true → ¬ refused → answer .done (beBytes 3 (clampIndication o e)) (stored e))
          ∧ (b.state = .standby → o.valid = false → answer .done [0, 0, 0]
              (stored ⟨false, 0, 0, 0, 0, 0, 0, 0, 0, 0, 0, 0, 0, 0, 0, 0, 0, 0, 0, 0⟩)))
      ∧ ∀ x y : Byte, ((x ≠ 1 ∧ x ≠ 2) ∨ 64 ≤ y.toNat) → s.Serves h (tag :: 2 :: x :: y :: o.bytes) →
        exec (.writeTypeEntry h tag (x :: y :: o.bytes)) s
          = .next (s.served h tag 2 (x :: y :: o.bytes) .badIndex [] (s.heard h))

/-- R8, R197: bit j of a clamp indication is set exactly when the field the layout gives bit j was changed; bit 8 belongs to
no field. -/
def Obligations.ClampIndicationNamesTheChangedFields : Prop :=
  ∀ (o e : TypeEntry) (j : Nat),
    let fields (x : TypeEntry) : List Nat :=
      [x.band, x.permLimit, x.steps, x.stepTimeout, x.zeroTimeout, x.holdTime, x.stabBand, x.window, 0, x.maxExtension,
        x.ventTimeout, x.settleTime, x.retestLimit, x.tareLossLimit, x.serviceLife]
    (clampIndication o e).testBit j = decide ((fields o).getD j 0 ≠ (fields e).getD j 0)

/-- R3, R7, R9, R197: WRITE MATCH ENTRY into a STANDBY bank stores the offered entry as offered, or clears it; into another
bank, or with a type code above 63, it changes nothing; a bank that is neither A nor B or an index above 63 is BAD
INDEX. -/
def Obligations.MatchEntryIsWritten : Prop :=
  ∀ (s : State) (h : Hdr) (tag : Byte) (k : BankId) (i : Fin 64) (m : MatchEntry),
    let b := s.banks.get k
    let stored (x : MatchEntry) : State :=
      { s.heard h with banks := s.banks.set k { b with matchTable := b.matchTable.set i.val x i.isLt } }
    let answer (args : List Byte) (st : Status) (t : State) : Prop :=
      exec (.writeMatchEntry h tag args) s = .next (s.served h tag 4 args st [] t)
    (s.Serves h (tag :: 4 :: k.code :: byteOf i :: m.bytes) →
        let args := k.code :: byteOf i :: m.bytes
        (b.state = .active → answer args .wrongBank (s.heard h))
          ∧ (b.state = .retiring → answer args .busy (s.heard h))
          ∧ (b.state = .standby → m.valid = true → answer args .done (stored m))
          ∧ (b.state = .standby → m.valid = false → answer args .done (stored ⟨false, 0, 0, 0, 0, 0⟩)))
      ∧ (∀ (x : List Byte) (y : Byte), x.length = 8 → 64 ≤ y.toNat → b.state = .standby →
        let args := k.code :: byteOf i :: 1 :: (x ++ [y])
        s.Serves h (tag :: 4 :: args) → answer args .badValue (s.heard h))
      ∧ ∀ x y : Byte, ((x ≠ 1 ∧ x ≠ 2) ∨ 64 ≤ y.toNat) → s.Serves h (tag :: 4 :: x :: y :: m.bytes) →
        answer (x :: y :: m.bytes) .badIndex (s.heard h)

/-- R12, R16, R17: COPY ACTIVE TO STANDBY copies both tables and nothing else; ACTIVATE STANDBY makes the STANDBY bank ACTIVE
with the next generation and the old one RETIRING while records name it, else STANDBY. With the other bank RETIRING both
are BUSY; a bank with no valid type entry is not activated. -/
def Obligations.BanksAreCopiedAndActivated : Prop :=
  ∀ (s : State) (h : Hdr) (tag : Byte) (k : BankId),
    let x := s.banks.get k
    let y := s.banks.get k.other
    x.state = .active → y.state ≠ .active →
    (s.Serves h [tag, 5] →
        (y.state = .retiring →
            exec (.copyActiveToStandby h tag []) s = .next (s.served h tag 5 [] .busy [] (s.heard h)))
          ∧ (y.state = .standby → exec (.copyActiveToStandby h tag []) s = .next (s.served h tag 5 [] .done []
              { s.heard h with
                banks := s.banks.set k.other { y with matchTable := x.matchTable, typeTable := x.typeTable } })))
      ∧ (s.Serves h [tag, 6] →
        (y.state = .retiring → exec (.activateStandby h tag []) s = .next (s.served h tag 6 [] .busy [] (s.heard h)))
          ∧ (y.state = .standby → (∀ c : Fin 64, y.typeTable[c].valid = false) →
            exec (.activateStandby h tag []) s = .next (s.served h tag 6 [] .emptyBank [] (s.heard h)))
          ∧ (y.state = .standby → (∃ c : Fin 64, y.typeTable[c].valid = true) → exec (.activateStandby h tag []) s
            = .next (s.served h tag 6 [] .done [k.other.code, x.gen + 1] { s.heard h with
                banks := (s.banks.set k { x with state := if 0 < x.refs then .retiring else .standby }).set k.other
                  { y with state := .active, gen := x.gen + 1 } })))

/-! ## Roles, stations' configuration and service -/

/-- R180: WRITE UNIT ROLE sets the role of an address; an address or a code outside its range, a role for the part, the
supervisor or a station, a second holder of a role that one address holds, and a change of a role whose dispatcher has an
order in flight are refused and change nothing. R134, R140: a write that gives the DIVERTER role to an address, or takes it
away, leaves the offline flags as they were and no frame heard from the role's holder, so that no waiting lane order is sent
before one comes (log entry 12). R196: the six codes of a role. -/
def Obligations.UnitRoleIsWritten : Prop :=
  [Role.unassigned, .intakeReader, .inspection, .markingPress, .scrapCell, .diverter].map Role.code = [0, 1, 2, 3, 4, 5]
  ∧ ∀ (s : State) (h : Hdr) (tag a b : Byte) (i : Fin 62) (r : Role),
    let addr := byteOf (i.val + 1)
    let taken : Prop := r ≠ .unassigned
      ∧ (addr = s.mgmt.latched.own ∨ addr = s.mgmt.latched.supervisor ∨ ∃ j, (s.station j).cfg.addr = addr)
    let second : Prop := (r = .markingPress ∨ r = .scrapCell ∨ r = .diverter) ∧ ∃ j, j ≠ i ∧ s.roles[j] = r
    let inFlight : Prop := (s.roles[i] = .markingPress ∧ s.dispatch.markD ≠ .idle)
      ∨ (s.roles[i] = .scrapCell ∧ s.dispatch.scrapD ≠ .idle) ∨ (s.roles[i] = .diverter ∧ s.dispatch.routeD ≠ .idle)
    let answer (st : Status) (t : State) : Prop :=
      exec (.writeUnitRole h tag [addr, r.code]) s = .next (s.served h tag 9 [addr, r.code] st [] t)
    (s.Serves h [tag, 9, addr, r.code] →
        (taken ∨ second → answer .badValue (s.heard h))
          ∧ (¬ taken → ¬ second → r ≠ s.roles[i] → inFlight → answer .busy (s.heard h))
          ∧ (¬ taken → ¬ second → (r = s.roles[i] ∨ ¬ inFlight) →
            answer .done { s.heard h with
              roles := s.roles.set i.val r i.isLt
              dispatch := { (s.heard h).dispatch with
                diverterHeard := (s.heard h).dispatch.diverterHeard
                  && decide (r = .diverter ↔ s.roles[i] = .diverter) } }))
      ∧ (s.Serves h [tag, 9, a, b] →
        ((a = 0 ∨ 62 < a.toNat) →
            exec (.writeUnitRole h tag [a, b]) s = .next (s.served h tag 9 [a, b] .badIndex [] (s.heard h)))
          ∧ (1 ≤ a.toNat → a.toNat ≤ 62 → 5 < b.toNat →
            exec (.writeUnitRole h tag [a, b]) s = .next (s.served h tag 9 [a, b] .badValue [] (s.heard h))))

/-- R63: WRITE STATION ENTRY configures a station that is OUT OF SERVICE, its period and silence limit clamped and the clamps
told, or makes the entry unconfigured with the address 0; it is BUSY in any other state, and an address above 62, the
part's, the supervisor's, another entry's or one that holds a role, or a coefficient above 4095, is BAD VALUE. -/
def Obligations.StationEntryIsWritten : Prop :=
  ∀ (s : State) (h : Hdr) (tag addr x : Byte) (i : StationNo) (k period silence : Nat), k < 65536 → period < 65536 →
    silence < 256 →
    let rest := addr :: (beBytes 2 k ++ beBytes 2 period ++ [byteOf silence])
    let args := byteOf i :: rest
    let refused : Prop := 62 < addr.toNat ∨ addr = s.mgmt.latched.own ∨ addr = s.mgmt.latched.supervisor
      ∨ (∃ j, j ≠ i ∧ (s.station j).cfg.addr = addr) ∨ s.roleOf addr ≠ .unassigned ∨ 4095 < k
    let p := min (max period 100) 2000
    let l := min (max silence 1) 30
    let answer (st : Status) (o : List Byte) (t : State) : Prop :=
      exec (.writeStationEntry h tag args) s = .next (s.served h tag 11 args st o t)
    (s.Serves h (tag :: 11 :: args) →
        ((s.station i).state ≠ .outOfService → answer .busy [] (s.heard h))
          ∧ ((s.station i).state = .outOfService →
            (addr = 0 → answer .done [0] ((s.heard h).updStation i fun st => { st with cfg := ⟨0, 0, 0, 0⟩ }))
              ∧ (addr ≠ 0 → refused → answer .badValue [] (s.heard h))
              ∧ (addr ≠ 0 → ¬ refused →
                answer .done [(if period = p then 0 else 1) + (if silence = l then 0 else 2)]
                  ((s.heard h).updStation i fun st => { st with cfg := ⟨addr, k, p, l⟩ }))))
      ∧ (s.Serves h (tag :: 11 :: x :: rest) → 8 ≤ x.toNat → exec (.writeStationEntry h tag (x :: rest)) s
        = .next (s.served h tag 11 (x :: rest) .badIndex [] (s.heard h)))

/-- R81, R83: SET STATION SERVICE in puts a station that is OUT OF SERVICE, and CLEAR STATION FAULT one in FAULTED or RESYNC,
in VACANT with an empty context and its last frame time now; other states are kept, told by the status or the state. -/
def Obligations.StationEntersServiceOrIsCleared : Prop :=
  ∀ (s : State) (h : Hdr) (tag x : Byte) (i : StationNo),
    let vacant : State := (s.heard h).updStation i fun st =>
      ⟨st.cfg, .vacant, none, 0, none, none, [], none, 0, none, false, false, false, s.clock⟩
    let inward (st : Status) (l : List Byte) (t : State) : Prop :=
      exec (.setStationServiceIn h tag (byteOf i)) s = .next (s.served h tag 12 [byteOf i, 1] st l t)
    let clear (st : Status) (l : List Byte) (t : State) : Prop :=
      exec (.clearStationFault h tag [byteOf i]) s = .next (s.served h tag 13 [byteOf i] st l t)
    (s.Serves h [tag, 12, byteOf i, 1] →
        (s.mgmt.latched.enabled ≤ i.val → inward .badIndex [] (s.heard h))
          ∧ (i.val < s.mgmt.latched.enabled → (s.station i).cfg.addr = 0 → inward .notReady [] (s.heard h))
          ∧ (i.val < s.mgmt.latched.enabled → (s.station i).cfg.addr ≠ 0 →
            ((s.station i).state = .outOfService → inward .done [2] vacant)
              ∧ ((s.station i).state ≠ .outOfService → inward .done [(s.station i).state.code] (s.heard h))))
      ∧ (s.Serves h [tag, 13, byteOf i] →
        ((s.station i).state = .faulted ∨ (s.station i).state = .resync → clear .done [2] vacant)
          ∧ ((s.station i).state = .vacant → clear .done [2] (s.heard h))
          ∧ ((s.station i).state = .outOfService → clear .done [1] (s.heard h))
          ∧ ((s.station i).state.watched = true → clear .busy [] (s.heard h)))
      ∧ (8 ≤ x.toNat →
        (s.Serves h [tag, 12, x, 1] →
            exec (.setStationServiceIn h tag x) s = .next (s.served h tag 12 [x, 1] .badIndex [] (s.heard h)))
          ∧ (s.Serves h [tag, 13, x] →
            exec (.clearStationFault h tag [x]) s = .next (s.served h tag 13 [x] .badIndex [] (s.heard h))))

/-- R82: SET STATION SERVICE out by the station's state: at once OUT OF SERVICE with an empty context, or the leaving-service
flag set and, in a test, the test ended with reason ABORTED by the steps of R73 and R74. The reply carries the state
entered. That an emptied context keeps its last frame time is the model's (log entry 15), and so is that a station in RESYNC
leaves at once though its leaving-service flag is still set (log entry 27). -/
def Obligations.StationLeavesService : Prop :=
  ∀ (s : State) (h : Hdr) (tag x : Byte) (i : StationNo),
    let out (l : Byte) (t : State) : Prop :=
      exec (.setStationServiceOut h tag (byteOf i)) s = .next (s.served h tag 12 [byteOf i, 0] .done [l] t)
    let leave (t : State) : State := t.updStation i fun st => { st with leaving := true }
    (s.Serves h [tag, 12, byteOf i, 0] →
        ((s.station i).state = .outOfService → out 1 (s.heard h))
          ∧ ((s.station i).state = .vacant ∨ (s.station i).state = .faulted ∨ (s.station i).state = .resync →
            out 1 ((s.heard h).updStation i fun st =>
              ⟨st.cfg, .outOfService, none, 0, none, none, [], none, 0, none, false, false, false, st.lastFrame⟩))
          ∧ ((s.station i).state = .releasing → out 8 (leave (s.heard h)))
          ∧ ((s.station i).state = .seated ∨ (s.station i).state = .settling →
            out 8 (leave ((s.heard h).abortTest i .aborted)))
          ∧ ((s.station i).state = .ramping ∨ (s.station i).state = .holding ∨ (s.station i).state = .venting →
            out 6 (leave ((s.heard h).abortTest i .aborted))))
      ∧ (s.Serves h [tag, 12, x, 0] → 8 ≤ x.toNat →
        exec (.setStationServiceOut h tag x) s = .next (s.served h tag 12 [x, 0] .badIndex [] (s.heard h)))

/-! ## Records, Calendar, gate, options, line reset -/

/-- R43: REMOVE RECORD frees the number of a record in HOLD or closed, by number or by serial, and takes it from the Closed
List; a record in any other state is BUSY, and a number or a serial that names none ABSENT. -/
def Obligations.RecordIsRemoved : Prop :=
  ∀ (s : State) (h : Hdr) (tag x : Byte) (n : RecNo) (field sr : List Byte) (r : Record), field.length = 17 →
    let byNumber := 0 :: byteOf n :: field
    let bySerial := 1 :: x :: field
    let answer (args : List Byte) (st : Status) (t : State) : Prop :=
      exec (.removeRecord h tag args) s = .next (s.served h tag 15 args st [] t)
    (∀ args, (args = byNumber ∧ s.getRec n = some r) ∨ (args = bySerial ∧ serialOf field = some sr ∧ s.Holds sr n r) →
        s.Serves h (tag :: 15 :: args) →
        (r.state = .hold ∨ r.state = .marked ∨ r.state = .scrapped ∨ r.state = .lost →
            answer args .done { s.heard h with records := { s.records with
              table := s.records.table.set n.val none n.isLt
              closed := s.records.closed.filter fun m => m != n } })
          ∧ (r.state = .identified ∨ r.state = .inspected ∨ r.state = .onTest ∨ r.state = .retestWait
              ∨ r.state = .markPending ∨ r.state = .atPress ∨ r.state = .scrapPending ∨ r.state = .atScrapCell →
            answer args .busy (s.heard h)))
      ∧ (s.Serves h (tag :: 15 :: byNumber) → s.getRec n = none → answer byNumber .absent (s.heard h))
      ∧ (s.Serves h (tag :: 15 :: bySerial) → serialOf field = some sr → s.Lacks sr → answer bySerial .absent (s.heard h))
      ∧ (s.Serves h (tag :: 15 :: 0 :: x :: field) → 128 ≤ x.toNat → answer (0 :: x :: field) .badIndex (s.heard h))
      ∧ (s.Serves h (tag :: 15 :: 1 :: x :: field) → serialOf field = none →
        answer (1 :: x :: field) .badValue (s.heard h))
      ∧ ∀ y : Byte, 2 ≤ y.toNat → s.Serves h (tag :: 15 :: y :: x :: field) →
        answer (y :: x :: field) .badValue (s.heard h)

/-- R141, R181: SET CALENDAR sets a month 1..12 and a year 2000..2099, else BAD VALUE; GATE OPEN opens the gate when the
Calendar is set and the latched mark is not four spaces, else NOT READY; GATE CLOSE closes it. -/
def Obligations.CalendarAndGateAreSet : Prop :=
  ∀ (s : State) (h : Hdr) (tag m : Byte) (y : Nat), y < 65536 →
    let args := m :: beBytes 2 y
    let good : Prop := 1 ≤ m.toNat ∧ m.toNat ≤ 12 ∧ 2000 ≤ y ∧ y ≤ 2099
    let gate (g : Gate) : State := { s.heard h with dispatch := { (s.heard h).dispatch with gate := g } }
    (s.Serves h (tag :: 16 :: args) →
        (good → exec (.setCalendar h tag args) s = .next (s.served h tag 16 args .done args
            { s.heard h with mgmt := { (s.heard h).mgmt with calendar := some ⟨m.toNat, y⟩ } }))
          ∧ (¬ good → exec (.setCalendar h tag args) s = .next (s.served h tag 16 args .badValue [] (s.heard h))))
      ∧ (s.Serves h [tag, 17] →
        (s.mgmt.calendar = none ∨ s.mgmt.latched.mark = ⟨0x20, 0x20, 0x20, 0x20⟩ →
            exec (.gateOpen h tag []) s = .next (s.served h tag 17 [] .notReady [] (s.heard h)))
          ∧ (s.mgmt.calendar ≠ none → s.mgmt.latched.mark ≠ ⟨0x20, 0x20, 0x20, 0x20⟩ →
            exec (.gateOpen h tag []) s = .next (s.served h tag 17 [] .done [1] (gate .gateOpen))))
      ∧ (s.Serves h [tag, 18] →
        exec (.gateClose h tag []) s = .next (s.served h tag 18 [] .done [0] (gate .gateClosed)))

/-- R187, R190: WRITE OPTIONS with five values in range begins the write, answered when it completes, and is else BAD VALUE;
the completed write leaves the store with the five values and the latched ones as they were, and is answered with result 0
unless ring loss cancelled its reply. A mark's characters are space, 0 to 9 and A to Z, coded as R191 gives. -/
def Obligations.OptionsAreWritten : Prop :=
  (∀ c : Byte, markChar c = true
      ↔ c = 0x20 ∨ (0x30 ≤ c.toNat ∧ c.toNat ≤ 0x39) ∨ (0x41 ≤ c.toNat ∧ c.toNat ≤ 0x5A))
    ∧ (∀ (s : State) (h : Hdr) (tag : Byte) (o : Options),
      s.Serves h (tag :: 21 :: o.bytes) →
      (∀ a ∈ [o.own, o.supervisor], 1 ≤ a.toNat ∧ a.toNat ≤ 62) → o.own ≠ o.supervisor →
      (∀ c ∈ [o.mark.c0, o.mark.c1, o.mark.c2, o.mark.c3], markChar c = true) → 1 ≤ o.enabled → o.enabled ≤ 8 →
      exec (.writeOptions h tag o.bytes) s = .next (State.passOn (frameTo s h 9 (tag :: 21 :: o.bytes)) true
        { s.heard h with mgmt := { (s.heard h).mgmt with responder := .working ⟨o, h.src, tag, false⟩ } }))
    ∧ (∀ (s : State) (h : Hdr) (tag a b c d e f n g : Byte), s.Serves h [tag, 21, a, b, c, d, e, f, n, g] →
      (a = 0 ∨ 62 < a.toNat ∨ b = 0 ∨ 62 < b.toNat ∨ a = b ∨ (∃ x ∈ [c, d, e, f], markChar x = false)
        ∨ n = 0 ∨ 8 < n.toNat ∨ 1 < g.toNat) →
      exec (.writeOptions h tag [a, b, c, d, e, f, n, g]) s
        = .next (s.served h tag 21 [a, b, c, d, e, f, n, g] .badValue [] (s.heard h)))
    ∧ ∀ (s : State),
      (∀ o dst tag, s.mgmt.responder = .working ⟨o, dst, tag, true⟩ → exec .optionStoreWriteComplete s
          = .next { s with mgmt := { s.mgmt with store := .holds o, responder := .idle } })
        ∧ (∀ o dst tag, s.mgmt.responder = .working ⟨o, dst, tag, false⟩ → exec .optionStoreWriteComplete s
          = .next { s.offer .reply dst (.reply ⟨tag, 21, .done, [0]⟩) with
              mgmt := { s.mgmt with store := .holds o, responder := .replyPending } })
        ∧ ((∀ w, s.mgmt.responder ≠ .working w) → exec .optionStoreWriteComplete s = .next s)

/-- R189 with R19, R44, R84, R142, R155: LINE RESET empties the Record Table, the lists, the Route FIFO and the slots of the
dispatchers, releases every reference, closes the gate, sends every watched station to RESYNC and offers ABORT to every
station in RESYNC; the open count, the types, the stations' configuration, roles, options, Calendar, tallies and notices, the
Transit Buffer, the frames in flight, the sequence number and the Ring Monitor (R170, R173) are kept. Orders of the
dispatchers still queued or on the ring are marked stale. -/
def Obligations.LineResetEmptiesTheLine : Prop :=
  ∀ (s : State) (h : Hdr) (tag : Byte), s.Serves h [tag, 22] →
    ∃ t, exec (.lineReset h tag []) s = .next (s.served h tag 22 [] .done [] t)
      ∧ (∀ n, t.getRec n = none) ∧ t.records.closed = [] ∧ t.records.openCount = s.records.openCount
      ∧ (∀ k, t.banks.get k = { s.banks.get k with
          refs := 0, state := if (s.banks.get k).state = .retiring then .standby else (s.banks.get k).state })
      ∧ (∀ i,
          ((s.station i).state.watched = true → t.station i = { s.station i with
              state := .resync, record := none, deadline := none, extensionEnd := none, aborted := false })
            ∧ ((s.station i).state = .vacant → t.station i = { s.station i with sealPending := false })
            ∧ ((s.station i).state = .faulted ∨ (s.station i).state = .outOfService ∨ (s.station i).state = .resync →
              t.station i = s.station i)
            ∧ ((s.station i).state.watched = true ∨ (s.station i).state = .resync →
              let abort : OwnFrame := ⟨.station i, (s.station i).cfg.addr, .order .abort, false⟩
              if (s.port.source (.station i)).cond = .free then abort ∈ t.port.queue
              else (t.port.source (.station i)).slot = some abort)
            ∧ ((s.station i).state = .vacant ∨ (s.station i).state = .faulted ∨ (s.station i).state = .outOfService →
              t.port.source (.station i) = s.port.source (.station i)))
      ∧ (∃ l, t.port.queue = s.port.queue ++ l
          ∧ ∀ q ∈ l, ∃ i, q = ⟨.station i, (s.station i).cfg.addr, .order .abort, false⟩
            ∧ ((s.station i).state.watched = true ∨ (s.station i).state = .resync))
      ∧ t.dispatch = { (s.heard h).dispatch with
          markList := [], scrapList := [], routes := [], routeD := .idle, markD := .idle, scrapD := .idle
          gate := .gateClosed
          routeStale := s.dispatch.routeStale || (s.port.source .route).cond != .free
          markStale := s.dispatch.markStale || (s.port.source .mark).cond != .free
          scrapStale := s.dispatch.scrapStale || (s.port.source .scrap).cond != .free }
      ∧ (∀ k ∈ [Src.mark, Src.scrap, Src.route], t.port.source k = ⟨(s.port.source k).cond, none⟩)
      ∧ (∀ k ∈ [Src.reply, Src.notice], t.port.source k = s.port.source k)
      ∧ (t.clock, t.mgmt, t.roles, t.port.transit, t.port.flights, t.port.out, t.port.nextSeq, t.port.row)
        = (s.clock, (s.heard h).mgmt, s.roles, (s.heard h).port.transit, s.port.flights, s.port.out, s.port.nextSeq,
          s.port.row)
      ∧ (t.port.monitor, t.port.lastActivity, t.cuts, t.pending) = (s.port.monitor, s.clock, s.cuts, s.pending)

/-- R171, R85, R156, R186, R190: 20 ms after the latest line activity the ring goes DOWN. The Ring Port drops every queue,
slot and record in flight and frees every source; it keeps the Transit Buffer, the sequence number and the frame being sent.
Each watched station is in RESYNC, and its test is ended as RING LOSS: in SEATED its record returns to the state it left, and
later it is judged: CONDEMN FINDING where a condemn finding stands, listed or held as R136 gives, else RETEST RING LOSS,
waiting for its retest or, its budget spent, held. The judged tests' lane orders, TEST, SCRAP or HOLD by the record's new
state, join the Route FIFO in ascending order of the stations while it has room. Each dispatcher is IDLE, the record of an
order in flight is held as unconfirmed, and the Mark List, the Scrap List but for what the judged tests add, the Route FIFO,
the gate and the offline flags are kept, as is every other record. A judged record that does not wait for a retest releases
its bank (R20), and a RETIRING bank so released of its last record is STANDBY; no other bank changes. The notices are dropped and counted, those of the judged
tests too, and the Responder keeps only a write in progress, its reply cancelled. Before that nothing happens. -/
def Obligations.RingLossStopsTheRing : Prop :=
  ∀ s : State,
    let tested : List RecNo := (List.finRange 8).filterMap fun i => (s.station i).record
    let judged : List RecNo := (List.finRange 8).filterMap fun i =>
      if (s.station i).state = .seated then none else (s.station i).record
    let raised (n k : Nat) : Nat := if k = 0 then n else min (n + k) 4294967295
    ((s.port.monitor = .down ∨ ¬ (s.clock - (s.port.lastActivity + 20)).toNat < 2147483648) →
        exec .ringLoss s = .next s)
      ∧ (s.port.monitor = .up → (s.clock - (s.port.lastActivity + 20)).toNat < 2147483648 →
        ∃ t, exec .ringLoss s = .next t
          ∧ t.port = { s.port with
              monitor := .down, queue := [], sources := Vector.replicate 13 ⟨.free, none⟩, flights := [], row := 0
              out := match s.port.out with | .own q w _ => .own q w true | x => x }
          ∧ (∃ l m, (∀ e ∈ l, e.record ≠ none) ∧ (l.filterMap fun e => e.record.map (·.1)).Sublist tested
            ∧ m.Sublist tested ∧ t.dispatch = { s.dispatch with
              markD := .idle, scrapD := .idle, routeD := .idle, markStale := false, scrapStale := false, routeStale := false
              routes := s.dispatch.routes ++ l, scrapList := s.dispatch.scrapList ++ m })
          ∧ (∀ i, ((s.station i).state.watched = true → t.station i = { s.station i with
                state := .resync, record := none, deadline := none, extensionEnd := none, aborted := false })
              ∧ ((s.station i).state.watched = false → t.station i = s.station i))
          ∧ (∀ n, n ∉ tested → (∀ a c, s.dispatch.disp a = .acting c → c.record ≠ n) → t.getRec n = s.getRec n)
          ∧ (t.records.closed, t.records.openCount) = (s.records.closed, s.records.openCount)
          ∧ (∀ k, ((t.banks.get k).typeTable, (t.banks.get k).matchTable, (t.banks.get k).gen)
            = ((s.banks.get k).typeTable, (s.banks.get k).matchTable, (s.banks.get k).gen))
          ∧ t.mgmt.notices = []
          ∧ t.mgmt.responder = (match s.mgmt.responder with | .working w => .working { w with cancelled := true } | _ => .idle)
          ∧ (t.clock, t.roles, t.mgmt.store, t.mgmt.storeSound, t.mgmt.latched, t.mgmt.calendar)
            = (s.clock, s.roles, s.mgmt.store, s.mgmt.storeSound, s.mgmt.latched, s.mgmt.calendar)
          ∧ (t.cuts, t.pending) = (s.cuts, s.pending)
          ∧ (s.RecordLaw →
            let order (n : RecNo) : Option RouteEntry := (t.getRec n).map fun x => ⟨x.serial,
              match x.state with | .retestWait => .test | .scrapPending => .scrap | _ => .hold, some (n, x.openSeq)⟩
            let listed (l : List RecNo) : List RecNo := l.filter fun n => t.stateOf n == some .scrapPending
            let given (v : Verdict) : Nat := judged.countP fun n => (t.getRec n).any fun x => x.verdict == some v
            t.dispatch.routes = s.dispatch.routes ++ (judged.filterMap order).take (4 - s.dispatch.routes.length)
              ∧ t.dispatch.scrapList = s.dispatch.scrapList ++ listed judged
              ∧ (∀ k,
                let released : Nat := judged.countP fun n => (s.getRec n).any (fun x => x.bank.any fun b => b.bank == k)
                  && (t.getRec n).any fun x => x.bank == none
                (t.banks.get k).refs = (s.banks.get k).refs - released
                  ∧ (t.banks.get k).state = if 0 < released ∧ (s.banks.get k).state = .retiring
                    ∧ (t.banks.get k).refs = 0 then .standby else (s.banks.get k).state)
              ∧ (∀ a c r, s.dispatch.disp a = .acting c → s.getRec c.record = some r →
                t.getRec c.record = some { r with state := .hold, holdReason := some a.unconfirmedReason })
              ∧ t.mgmt.tallies = { s.mgmt.tallies with
                condemn := raised s.mgmt.tallies.condemn (given (.condemn .finding))
                retest := raised s.mgmt.tallies.retest (given (.retest .ringLoss))
                dropped := min (s.mgmt.tallies.dropped + judged.length + s.mgmt.notices.length) 4294967295 }
              ∧ ∀ i n r, s.Tests i n r →
                let found : Prop := r.findings &&& (s.typeEntry r).condemnMask ≠ 0
                let q := { r with seatedFrom := none, verdict := some (.retest .ringLoss) }
                ((s.station i).state = .seated → ∀ f, r.seatedFrom = some f →
                    t.getRec n = some { r with state := f.recState, seatedFrom := none, lastAbort := some .ringLoss })
                  ∧ ((s.station i).state ≠ .seated → ¬ found → 0 < r.retestsLeft →
                    t.getRec n = some { q with state := .retestWait, retestsLeft := r.retestsLeft - 1 })
                  ∧ ((s.station i).state ≠ .seated → ¬ found → r.retestsLeft = 0 →
                    t.getRec n = some { q with state := .hold, holdReason := some .retestsExhausted, bank := none })
                  ∧ ((s.station i).state ≠ .seated → found → ∀ u v, judged = u ++ n :: v →
                    let c := { r with seatedFrom := none, verdict := some (.condemn .finding), bank := none }
                    let held (why : HoldReason) : Prop :=
                      t.getRec n = some { c with state := .hold, holdReason := some why }
                    let full : Prop := 32 ≤ s.dispatch.scrapList.length + (listed u).length
                    let room : Prop := s.dispatch.routes.length + u.length < 4
                    (full → held .listFull)
                      ∧ (¬ full → s.online .scrapCell = false → held .scrapOffline)
                      ∧ (¬ full → s.online .scrapCell = true → ¬ room → held .routeUnconfirmed)
                      ∧ (¬ full → s.online .scrapCell = true → room →
                        t.getRec n = some { c with state := .scrapPending, passedBy := 0 }))))

/-! ## Intake and inspection (chapters 2 and 3) -/

/-- R32, R194: an intake read of another length than 25 is ignored; one that finds the Calendar unset or the Route FIFO full
is not taken; one with a malformed serial or a year outside 1950..2099 is ignored. Nothing else changes. R24, R191: a serial
field is malformed when its length is 0 or above 16, or a character within the length is none of "-", "/", 0 to 9 and A to Z;
bytes beyond the length are not read, and are sent as 0. -/
def Obligations.IntakeReadIsTurnedAway : Prop :=
  (∀ c : Byte, serialChar c = true ↔ c = 0x2D ∨ c = 0x2F ∨ (0x30 ≤ c.toNat ∧ c.toNat ≤ 0x39)
      ∨ (0x41 ≤ c.toNat ∧ c.toNat ≤ 0x5A))
  ∧ (∀ field sr : List Byte, field.length = 17 →
      let n := (byteAt field 0).toNat
      (serialOf field = none ↔ n = 0 ∨ 16 < n ∨ ∃ i, 1 ≤ i ∧ i ≤ n ∧ serialChar (byteAt field i) = false)
        ∧ (∀ sr, serialOf field = some sr → sr = (field.drop 1).take n ∧ goodSerial sr)
        ∧ serialCut field = (field.drop 1).take (min n 16)
        ∧ serialField sr = byteOf sr.length :: (sr ++ List.replicate (16 - sr.length) 0)
        ∧ (goodSerial sr → serialOf (serialField sr) = some sr))
  ∧ ∀ (s : State) (h : Hdr) (p : List Byte), s.HearsRole h p .intakeReader →
    let ignored := exec (.intakeRead h p) s = .next ((s.heard h).ignored.passOn (frameTo s h 1 p) true)
    (p.length ≠ 25 → ignored)
      ∧ (p.length = 25 → (s.mgmt.calendar = none ∨ 4 ≤ s.dispatch.routes.length) →
        exec (.intakeRead h p) s = .next ((s.heard h).passOn (frameTo s h 1 p) false))
      ∧ ∀ field maker model year tare, p = tagPayload field maker model year tare → field.length = 17 → year < 65536 →
        s.mgmt.calendar ≠ none → s.dispatch.routes.length < 4 →
        (serialOf field = none ∨ year < 1950 ∨ 2099 < year) → ignored

/-- R29, R31, R33, R34, R39, R41: an admitted intake read opens a record in the lowest free number, or in the number at the
head of the Closed List, or finds no space; it reopens a record in HOLD or LOST in its own number; it frees a MARKED one
and opens afresh; of a record in any other state it is a CLASH. What follows an opening is `typeRec`, which has its own
statement. -/
def Obligations.IntakeReadOpensOrReopens : Prop :=
  ∀ (s : State) (h : Hdr) (field sr : List Byte) (maker model : Word16) (year tare : Nat), field.length = 17 →
    serialOf field = some sr → 1950 ≤ year →
    year ≤ 2099 → tare < 65536 →
    let p := tagPayload field maker model year tare
    s.HearsRole h p .intakeReader → s.mgmt.calendar ≠ none → s.dispatch.routes.length < 4 →
    let becomes (t : State) : Prop := exec (.intakeRead h p) s = .next (t.passOn (frameTo s h 1 p) true)
    let seq := s.records.openCount + 1
    let fresh : Record := ⟨sr, .hold, none, maker, model, year, if 1 ≤ tare ∧ tare ≤ 20000 then some tare else none,
      none, none, seq, 0, 0, none, .notDone, 0, 0, none, none, none, none, 0, 0⟩
    let full : Prop := ∀ m, s.getRec m ≠ none
    let clashed (t : State) : State := { t with
      dispatch := { t.dispatch with routes := t.dispatch.routes ++ [⟨sr, .hold, none⟩] } }
    (s.Lacks sr → ∀ n, s.getRec n = none → (∀ m, m < n → s.getRec m ≠ none) →
        becomes (State.typeRec n fresh { s.heard h with records := { s.records with openCount := seq } }))
      ∧ (s.Lacks sr → full → ∀ n rest, s.records.closed = n :: rest → n ∉ rest →
        becomes (State.typeRec n fresh { s.heard h with records :=
          ⟨s.records.table.set n.val none n.isLt, rest, seq⟩ }))
      ∧ (s.Lacks sr → full → s.records.closed = [] → becomes (clashed ((s.heard h).tally .noSpace)))
      ∧ ∀ n r, s.Holds sr n r →
        (r.state = .hold ∨ r.state = .lost → becomes (State.typeRec n
            { fresh with attempts := r.attempts, lastAbort := r.lastAbort, result := r.result, clash := r.clash }
            { s.heard h with records := { s.records with
              closed := s.records.closed.filter fun m => m != n, openCount := seq } }))
          ∧ (r.state = .marked → ∀ k, (k = n ∨ s.getRec k = none) → (∀ m, m < k → m ≠ n ∧ s.getRec m ≠ none) →
            becomes (State.typeRec k fresh { s.heard h with records :=
              ⟨s.records.table.set n.val none n.isLt, s.records.closed.filter fun m => m != n, seq⟩ }))
          ∧ (r.state ≠ .hold → r.state ≠ .lost → r.state ≠ .marked → becomes (clashed (((s.heard h).putRec n
            (some { r with clash := min (r.clash + 1) 255 })).tally .clashes)))

/-- R35 to R38: an opened record is resolved in the ACTIVE bank; an unknown type, a year later than the Calendar's and an age
at or past the service life have their verdicts, in that order; else the record enters IDENTIFIED with its type code, the
type's retests and a reference to the ACTIVE bank and its generation, and is routed to TEST. -/
def Obligations.OpenedRecordIsTyped : Prop :=
  ∀ (s : State) (n : RecNo) (r : Record) (k : BankId) (cal : Calendar), (s.banks.get k).state = .active →
    (s.banks.get k.other).state ≠ .active → s.mgmt.calendar = some cal → s.dispatch.routes.length < 4 →
    let b := s.banks.get k
    (b.resolve r.maker r.model = none →
        s.typeRec n r = (s.putRec n (some r)).giveVerdict n (.hold .unknownType) false)
      ∧ ∀ c, b.resolve r.maker r.model = some c →
        let e := b.typeTable[c]
        let q := { r with typeCode := some c, retestsLeft := e.retestLimit }
        (cal.year < r.year → s.typeRec n r = (s.putRec n (some q)).giveVerdict n (.hold .tagDate) false)
          ∧ (r.year ≤ cal.year → e.serviceLife ≠ 0 → e.serviceLife ≤ cal.year - r.year →
            s.typeRec n r = (s.putRec n (some q)).giveVerdict n (.condemn .life) false)
          ∧ (r.year ≤ cal.year → (e.serviceLife = 0 ∨ cal.year - r.year < e.serviceLife) →
            let known := { q with state := .identified, bank := some ⟨k, b.gen⟩ }
            s.typeRec n r = { s with
              records := { s.records with table := s.records.table.set n.val (some known) n.isLt }
              banks := s.banks.set k { b with refs := b.refs + 1 }
              dispatch := { s.dispatch with
                routes := s.dispatch.routes ++ [⟨r.serial, .test, some (n, r.openSeq)⟩] } })

/-- R53: the weight check by its table, the loss truncated and in 0..999; a FINDING that carries a measured tare computes it
from that tare, the record's tag tare and the type's limit. -/
def Obligations.WeightCheckByTheTable : Prop :=
  ∀ (tag measured limit : Nat), 1 ≤ tag → tag ≤ 20000 → 1 ≤ measured → measured ≤ 20000 →
    let loss := (tag - measured) * 1000 / tag
    weightCheck none measured limit = .noTagTare
      ∧ (tag ≤ measured → weightCheck (some tag) measured limit = .ok)
      ∧ (measured < tag → limit = 0 → weightCheck (some tag) measured limit = .ok)
      ∧ (measured < tag → limit ≠ 0 → limit < loss → weightCheck (some tag) measured limit = .loss)
      ∧ (measured < tag → limit ≠ 0 → loss ≤ limit → weightCheck (some tag) measured limit = .ok)
      ∧ loss ≤ 999
      ∧ ∀ (f : FindingFields) (r : Record), f.tare = some measured →
        (applyFinding f limit r).weight = weightCheck r.tagTare measured limit
          ∧ (applyFinding f limit r).measuredTare = some measured

/-- R15: a record is judged by the entry at its type code in the bank it names, ACTIVE or RETIRING. R56: the evaluation of an
inspection by its rows in order. -/
def Obligations.EarlyVerdictByTheTable : Prop :=
  (∀ (s : State) (r : Record) (b : BankRef) (c : TypeCode), r.bank = some b → r.typeCode = some c →
      s.typeEntry r = (match b.bank with | .a => s.banks.a | .b => s.banks.b).typeTable[c]
        ∧ s.banks.get .a = s.banks.a ∧ s.banks.get .b = s.banks.b)
  ∧ ∀ (s : State) (n : RecNo) (r : Record), s.getRec n = some r →
    let e := s.typeEntry r
    let one : Prop := r.findings &&& e.condemnMask ≠ 0
    let two : Prop := r.weight = .loss ∧ e.tareLossLimit ≠ 0
    let three : Prop := r.findings &&& e.holdMask &&& ~~~e.condemnMask ≠ 0
    let four : Prop := r.weight = .noTagTare ∧ e.tareLossLimit ≠ 0
    (one → s.evaluate n = s.giveVerdict n (.condemn .finding) false)
      ∧ (¬ one → two → s.evaluate n = s.giveVerdict n (.condemn .weightLoss) false)
      ∧ (¬ one → ¬ two → three → s.evaluate n = s.giveVerdict n (.hold .finding) false)
      ∧ (¬ one → ¬ two → ¬ three → four → s.evaluate n = s.giveVerdict n (.hold .noTare) false)
      ∧ (¬ one → ¬ two → ¬ three → ¬ four → r.state = .identified →
        s.evaluate n = s.putRec n (some { r with state := .inspected }))
      ∧ (¬ one → ¬ two → ¬ three → ¬ four → r.state ≠ .identified → s.evaluate n = s)

/-- R48 to R51, R55, R58, R59: a FINDING by the state of the record it names: applied (the clear set leaves, then the report
set joins; items only grow; a tare in 1..20000 is weighed) with the close test in IDENTIFIED, the evaluation in INSPECTED and
RETEST WAIT, and nothing more in ON TEST; not taken while a place in the Route FIFO might be wanted and none is free; late
and counted in every other state (in the late-findings tally alone: log entry 26); ignored where no record, or no serial, is
named. -/
def Obligations.FindingIsApplied : Prop :=
  ∀ (s : State) (h : Hdr) (p : List Byte), s.HearsRole h p .inspection →
    let becomes (t : State) : Prop := exec (.finding h p) s = .next (t.passOn (frameTo s h 2 p) true)
    (p.length ≠ 24 → becomes (s.heard h).ignored)
      ∧ ∀ (field : List Byte) (items : BitVec 8) (sets clears : Word16) (tare : Nat),
        p = findingPayload field items sets clears tare → field.length = 17 → tare < 65536 →
        ((serialOf field = none ∨ ∃ sr, serialOf field = some sr ∧ s.Lacks sr) → becomes (s.heard h).ignored)
          ∧ ∀ sr n r, serialOf field = some sr → s.Holds sr n r →
            let e := s.typeEntry r
            let r1 := { r with findings := (r.findings &&& ~~~clears) ||| sets, items := r.items ||| items }
            let r2 : Record := if 1 ≤ tare ∧ tare ≤ 20000 then
              { r1 with measuredTare := some tare, weight := weightCheck r.tagTare tare e.tareLossLimit } else r1
            let applied := (s.heard h).putRec n (some r2)
            let full : Prop := 4 ≤ s.dispatch.routes.length
            (r.state = .onTest → becomes applied)
              ∧ (r.state = .identified ∨ r.state = .inspected ∨ r.state = .retestWait → full →
                exec (.finding h p) s = .next ((s.heard h).passOn (frameTo s h 2 p) false))
              ∧ (r.state = .identified → ¬ full → e.required &&& ~~~r2.items ≠ 0 → becomes applied)
              ∧ (r.state = .identified → ¬ full → e.required &&& ~~~r2.items = 0 → becomes (applied.evaluate n))
              ∧ (r.state = .inspected ∨ r.state = .retestWait → ¬ full → becomes (applied.evaluate n))
              ∧ (r.state = .markPending ∨ r.state = .atPress ∨ r.state = .scrapPending ∨ r.state = .atScrapCell
                  ∨ r.state = .hold ∨ r.state = .marked ∨ r.state = .scrapped ∨ r.state = .lost →
                becomes ((s.heard h).tally .lateFindings))

/-! ## Verdicts (chapter 6, R27, R136) -/

/-- R114: the correction is K × ΔT / 256 to the nearest whole number, halves away from zero; it has ΔT's sign or is 0, lies
in −159945..159945, and is 0 for K of 0 or ΔT of 0; ΔT is the temperature of the hold, or of the settle, less that of the
zero. -/
def Obligations.CorrectionIsTheNearestWhole : Prop :=
  ∀ (k : Nat) (dT : Int), k ≤ 4095 → -9999 ≤ dT → dT ≤ 9999 →
    let c := correction k dT
    let product : Int := k * dT
    (256 * c - product).natAbs ≤ 128
      ∧ ((256 * c - product).natAbs = 128 → product.natAbs < 256 * c.natAbs)
      ∧ c.natAbs = (product.natAbs + 128) / 256
      ∧ product.natAbs ≤ 40945905 ∧ 0 ≤ c * dT ∧ c.natAbs ≤ 159945
      ∧ correction 0 dT = 0 ∧ correction k 0 = 0 ∧ correction k (-dT) = -c
      ∧ ∀ zero total settled : Reading, zero.temp ≤ 9999 → total.temp ≤ 9999 → settled.temp ≤ 9999 →
        let forTotal : Int := total.temp - zero.temp
        let forPermanent : Int := settled.temp - zero.temp
        let raw : Int := settled.level - zero.level - correction k forPermanent
        let x := expansionOf k zero total settled
        forTotal.natAbs ≤ 9999 ∧ forPermanent.natAbs ≤ 9999
          ∧ x.et = total.level - zero.level - correction k forTotal
          ∧ ∀ p, x.perm = some p → (p.ep : Int) = max 0 (min x.et raw)

/-- R115 to R118: the total expansion is the corrected rise from zero to hold; at 0 or less nothing more is formed; at 1
or more the raw permanent is brought within 0..E_t with the flag of the end it was brought to, the elastic expansion is the
rest, the permanent ratio is E_p × 1000 / E_t truncated, 1000 exactly when E_p is E_t, and all lie in their ranges. (R117's
"0 exactly when E_p is 0" does not follow from its formula, which the model takes: log entry 23.) -/
def Obligations.ExpansionFigures : Prop :=
  ∀ (k : Nat) (zero total settled : Reading), k ≤ 4095 →
    (∀ x ∈ [zero, total, settled], x.level ≤ 65534 ∧ x.temp ≤ 9999) →
    let et : Int := total.level - zero.level - correction k (total.temp - zero.temp)
    let raw : Int := settled.level - zero.level - correction k (settled.temp - zero.temp)
    let x := expansionOf k zero total settled
    x.et = et ∧ et.natAbs ≤ 225479 ∧ raw.natAbs ≤ 225479
      ∧ (et ≤ 0 → x.perm = none ∧ x.flags = ⟨false, false⟩)
      ∧ (1 ≤ et → ∃ p, x.perm = some p ∧ (p.ep : Int) + p.elastic = et ∧ (p.ep : Int) ≤ et
        ∧ p.ratio = p.ep * 1000 / et.toNat ∧ p.ratio ≤ 1000 ∧ (p.ratio = 1000 ↔ (p.ep : Int) = et)
        ∧ (p.ep = 0 → p.ratio = 0)
        ∧ (raw < 0 → p.ep = 0 ∧ x.flags = ⟨true, false⟩)
        ∧ (0 ≤ raw → raw ≤ et → (p.ep : Int) = raw ∧ x.flags = ⟨false, false⟩)
        ∧ (et < raw → (p.ep : Int) = et ∧ x.flags = ⟨false, true⟩))

/-- R120: the rows of the verdict order, the first that applies. -/
def Obligations.VerdictOrderRows : Prop :=
  ∀ (e : TypeEntry) (r : Record) (x : Expansion) (why : Reason),
    let found : Prop := r.findings &&& e.condemnMask ≠ 0
    let ratio := (x.perm.map (·.ratio)).getD 0
    let five : Prop := (e.ree : Int) < x.et
    let six : Prop := e.permLimit < ratio
    let seven : Prop := r.findings &&& e.holdMask &&& ~~~e.condemnMask ≠ 0
      ∨ (r.weight = .noTagTare ∧ e.tareLossLimit ≠ 0)
    (found → ∀ how, verdictOrder e r how = .condemn .finding)
      ∧ (¬ found → verdictOrder e r .burst = .condemn .burst ∧ verdictOrder e r .overpressure = .condemn .overpressure)
      ∧ (¬ found → verdictOrder e r (.retest why) = .retest why)
      ∧ (¬ found → x.et ≤ 0 → verdictOrder e r (.captured x) = .retest .noExpansion)
      ∧ (¬ found → 0 < x.et → five → verdictOrder e r (.captured x) = .condemn .elastic)
      ∧ (¬ found → 0 < x.et → ¬ five → six → verdictOrder e r (.captured x) = .condemn .permanent)
      ∧ (¬ found → 0 < x.et → ¬ five → ¬ six → seven → verdictOrder e r (.captured x) = .hold .finding)
      ∧ (¬ found → 0 < x.et → ¬ five → ¬ six → ¬ seven → r.weight = .loss →
        verdictOrder e r (.captured x) = .condemn .weightLoss)
      ∧ (¬ found → 0 < x.et → ¬ five → ¬ six → ¬ seven → r.weight ≠ .loss → verdictOrder e r (.captured x) = .pass)

/-- R27, R28, R124, R125, R128 to R130, R136, R137, R184: a verdict applied in one event: the verdict written, the reference
released unless the record waits for a retest, the record's next state, its place on a list and its lane order by the
verdict's kind and the room there is, the notice offered (or dropped and counted), the kind's tally raised. A PASS goes by
the press and the Mark List, a CONDEMN by the scrap cell and the Scrap List (R136); R134: an actuator is online when some
address holds its role and its offline flag is clear. R25, R29: the states that reference a bank, and the closed ones. -/
def Obligations.VerdictIsApplied : Prop :=
  (∀ (d : DispatchUnit) (l : List RecNo),
      (d.list .press, d.list .scrapCell) = (d.markList, d.scrapList)
        ∧ (d.setList .press l, d.setList .scrapCell l) = ({ d with markList := l }, { d with scrapList := l }))
  ∧ (∀ s : State,
      (s.online .press = true ↔ (∃ i : Fin 62, s.roles[i] = .markingPress) ∧ s.dispatch.pressOffline = false)
        ∧ (s.online .scrapCell = true ↔ (∃ i : Fin 62, s.roles[i] = .scrapCell) ∧ s.dispatch.scrapOffline = false))
  ∧ (Actuator.press.pendingState, Actuator.press.lane, Actuator.press.offlineReason) = (.markPending, .mark, .pressOffline)
  ∧ (Actuator.scrapCell.pendingState, Actuator.scrapCell.lane, Actuator.scrapCell.offlineReason)
    = (.scrapPending, .scrap, .scrapOffline)
  ∧ [Reason.unknownType, .tagDate, .finding, .noTare].map Reason.holdReason = [.unknownType, .tagDate, .finding, .noTare]
  ∧ (∀ why, [Verdict.pass, .condemn why, .retest why, .hold why].map Verdict.tally = [.pass, .condemn, .retest, .hold])
  ∧ (∀ st : RecState, (st.references = true ↔ st ∈ [RecState.identified, .inspected, .onTest, .retestWait])
      ∧ (st.isClosed = true ↔ st ∈ [RecState.marked, .scrapped, .lost]))
  ∧ ∀ (s : State) (n : RecNo) (r : Record) (v : Verdict) (figures : Bool), s.getRec n = some r →
    let q := { r with verdict := some v, seatedFrom := none }
    let free := { q with bank := none }
    let freed : TypeBanks := match r.bank with
      | none => s.banks
      | some b => s.banks.set b.bank { s.banks.get b.bank with
          refs := (s.banks.get b.bank).refs - 1
          state := if (s.banks.get b.bank).state = .retiring ∧ (s.banks.get b.bank).refs - 1 = 0 then .standby
            else (s.banks.get b.bank).state }
    let room : Prop := s.dispatch.routes.length < 4
    let routed (lane : Lane) (d : DispatchUnit) : DispatchUnit :=
      if d.routes.length < 4 then { d with routes := d.routes ++ [⟨r.serial, lane, some (n, r.openSeq)⟩] } else d
    let after (x : Record) (k : TypeBanks) (d : DispatchUnit) : State :=
      let t := { s with
        banks := k, records := { s.records with table := s.records.table.set n.val (some x) n.isLt }, dispatch := d }
      let note : Notice := .verdict n r.serial v x.state x.holdReason x.retestsLeft (if figures then r.result else none)
      State.tally v.tally (if s.port.monitor = .up ∧ s.mgmt.notices.length < 8 then
        { t with mgmt := { t.mgmt with notices := t.mgmt.notices ++ [note] } } else t.tally .dropped)
    let held (why : HoldReason) : State :=
      after { free with state := .hold, holdReason := some why } freed (routed .hold s.dispatch)
    let onto (a : Actuator) (t : State) : Prop :=
      (32 ≤ (s.dispatch.list a).length → t = held .listFull)
        ∧ ((s.dispatch.list a).length < 32 → s.online a = false → t = held a.offlineReason)
        ∧ ((s.dispatch.list a).length < 32 → s.online a = true → ¬ room → t = held .routeUnconfirmed)
        ∧ ((s.dispatch.list a).length < 32 → s.online a = true → room →
          t = after { free with state := a.pendingState, passedBy := 0 } freed
            (routed a.lane (s.dispatch.setList a (s.dispatch.list a ++ [n]))))
    (v = .pass → onto .press (s.giveVerdict n v figures))
      ∧ (∀ why, v = .condemn why → onto .scrapCell (s.giveVerdict n v figures))
      ∧ (∀ why, v = .hold why → s.giveVerdict n v figures = held why.holdReason)
      ∧ (∀ why, v = .retest why → 0 < r.retestsLeft → s.giveVerdict n v figures
        = after { q with state := .retestWait, retestsLeft := r.retestsLeft - 1 } s.banks (routed .test s.dispatch))
      ∧ (∀ why, v = .retest why → r.retestsLeft = 0 → s.giveVerdict n v figures = held .retestsExhausted)

/-! ## Stations (chapters 4 and 5) -/

/-- R26, R73, R74, R119, R121: a test ended early: in SEATED the record returns to the state it left, with the reason of the
pre-pressure abort; later a verdict of the verdict order is given. The test is no longer in progress, and the ordinary abort
path gives the station's side by its phase. Where no test is in progress nothing ends, and the abort path only sets the
aborted flag of a station in VENTING. -/
def Obligations.TestEndsEarly : Prop :=
  (SeatedFrom.inspected.recState, SeatedFrom.retestWait.recState) = (.inspected, .retestWait)
  ∧ (∀ (s : State) (i : StationNo) (why : Reason) (how : TestEnd), (s.station i).record = none →
      s.concludeTest i how = s ∧ s.endTest i why = s
        ∧ ((s.station i).state = .venting → s.abortTest i why = s.updStation i fun st => { st with aborted := true })
        ∧ ((s.station i).state.inCycle = false → s.abortTest i why = s))
  ∧ ∀ (s : State) (i : StationNo) (n : RecNo) (r : Record) (why : Reason) (how : TestEnd), s.Tests i n r →
    let st := s.station i
    let e := s.typeEntry r
    let order (o : Order) (t : State) : State := t.offer (.station i) st.cfg.addr (.order o)
    let unlinked (t : State) : State := t.updStation i fun st => { st with record := none }
    s.concludeTest i how = unlinked (s.giveVerdict n (verdictOrder e r how) (decide (st.state ≠ .seated)))
      ∧ (st.state = .seated → ∀ f, r.seatedFrom = some f → s.endTest i why
        = unlinked (s.putRec n (some { r with state := f.recState, seatedFrom := none, lastAbort := some why })))
      ∧ (st.state ≠ .seated → s.endTest i why
        = unlinked (s.giveVerdict n (if r.findings &&& e.condemnMask ≠ 0 then .condemn .finding else .retest why) true))
      ∧ (st.state = .seated ∨ st.state = .settling → s.abortTest i why
        = (order .release (s.endTest i why)).updStation i fun st => { st with
            state := .releasing, record := none, deadline := some (s.clock + 60000), extensionEnd := none
            aborted := false, sealPending := false })
      ∧ (st.state = .ramping ∨ st.state = .holding → s.abortTest i why
        = (order .vent (s.endTest i why)).updStation i fun st => { st with
            state := .venting, aborted := true, extensionEnd := none
            deadline := some (s.clock + BitVec.ofNat 32 (e.ventTimeout * 1000)) })
      ∧ (st.state = .venting → s.abortTest i why = (s.endTest i why).updStation i fun st => { st with aborted := true })

/-- R26, R65, R69, R70: a SEATED of an eligible record at a station in VACANT with no seal fault pending, or in RELEASING and
not leaving service, seats it: the record is ON TEST with its verdict absent, START is offered, and the station is SEATED
with its context made ready and the zero deadline armed. -/
def Obligations.SeatIsAccepted : Prop :=
  ∀ (s : State) (h : Hdr) (i : StationNo) (field sr : List Byte) (n : RecNo) (r : Record) (f : SeatedFrom),
    field.length = 17 → serialOf field = some sr → s.HearsStation h (1 :: field) i → s.Holds sr n r → r.state = f.recState →
    ((s.station i).state = .vacant ∧ (s.station i).sealPending = false
      ∨ (s.station i).state = .releasing ∧ (s.station i).leaving = false) →
    let seated : Station := ⟨(s.station i).cfg, .seated, some n, 0,
      some (s.clock + BitVec.ofNat 32 ((s.typeEntry r).zeroTimeout * 1000)), none, [], none, 0, none, false, false,
      (s.station i).leaving, s.clock⟩
    let onTest := { r with state := .onTest, seatedFrom := some f, verdict := none }
    exec (.seated h field) s = .next (State.passOn (frameTo s h 4 (1 :: field)) true
      { ((s.heard h).offer (.station i) (s.station i).cfg.addr (.order (.start sr))) with
        records := { s.records with table := s.records.table.set n.val (some onTest) n.isLt }
        stations := s.stations.set i.val seated i.isLt })

/-- R69 to R72: a SEATED that no eligible record answers has REJECT offered and is counted, the station RELEASING; one that
meets a pending seal fault has REJECT offered and the reason SEAL written in its record; in RELEASING the last cylinder is
released first; in SEATED..SETTLING the running test is ended as SUPERSEDED and the seat is handled as in VACANT; a station
out of service (or reaching it), FAULTED or in RESYNC ignores it. (That a leaving station which so reaches OUT OF SERVICE
keeps the rest of its context, and that a superseded station loses its leaving-service flag, are the model's, log entries 15
and 14.) -/
def Obligations.SeatIsRefused : Prop :=
  ∀ (s : State) (h : Hdr) (i : StationNo) (field : List Byte), field.length = 17 → s.HearsStation h (1 :: field) i →
    let st := s.station i
    let x := s.heardFrom h i
    let becomes (t : State) : Prop := exec (.seated h field) s = .next (t.passOn (frameTo s h 4 (1 :: field)) true)
    let emptied (t : State) : State := t.updStation i fun st =>
      ⟨st.cfg, .vacant, none, 0, none, none, [], none, 0, none, false, false, false, st.lastFrame⟩
    let rejected (t : State) : State :=
      (t.offer (.station i) st.cfg.addr (.order (.reject (echoField field)))).updStation i fun st => { st with
        state := .releasing, record := none, deadline := some (s.clock + 60000), extensionEnd := none
        aborted := false, sealPending := false }
    let ineligible : Prop := ∀ sr, serialOf field = some sr → ∀ n r, s.getRec n = some r → r.serial = sr →
      r.state ≠ .inspected ∧ r.state ≠ .retestWait
    (st.state = .outOfService ∨ st.state = .faulted ∨ st.state = .resync → becomes x.ignored)
      ∧ (st.state = .releasing → st.leaving = true →
        becomes (x.updStation i fun st => { st with state := .outOfService, deadline := none, leaving := false }).ignored)
      ∧ (st.state = .vacant → ineligible → becomes (rejected x).ignored)
      ∧ (st.state = .releasing → st.leaving = false → ineligible → becomes (rejected (emptied x)).ignored)
      ∧ (st.state = .vacant → st.sealPending = true → ∀ sr n r, serialOf field = some sr →
        s.Holds sr n r → (r.state = .inspected ∨ r.state = .retestWait) →
        becomes ((rejected x).putRec n (some { r with lastAbort := some .seal })))
      ∧ (st.state.inCycle = true → becomes ((emptied (x.endTest i .superseded)).seatVacant i field))

/-- R75, R76, R77: SEAL FAULT, RELEASED and BURST by the station's state. (That RELEASED at a leaving station keeps the rest
of its context, and that RELEASED in SEATED..SETTLING clears its leaving-service flag, are the model's, log entries 15 and
14.) -/
def Obligations.StationEventsByState : Prop :=
  ∀ (s : State) (h : Hdr) (i : StationNo),
    let st := s.station i
    let x := s.heardFrom h i
    let becomes (c : Instr) (code : Byte) (t : State) : Prop :=
      exec c s = .next (t.passOn (frameTo s h 4 [code]) true)
    let emptied (t : State) : State := t.updStation i fun st =>
      ⟨st.cfg, .vacant, none, 0, none, none, [], none, 0, none, false, false, false, st.lastFrame⟩
    let faulted (t : State) : State :=
      let down (st : Station) : Station := { st with
        state := .faulted, record := none, deadline := none, extensionEnd := none, aborted := false, leaving := false
        sealPending := false }
      let slotless : SourceState := ⟨(t.port.source (.station i)).cond, none⟩
      let k := (Src.station i).idx
      { t.updStation i down with port := { t.port with sources := t.port.sources.set k.val slotless k.isLt } }
    let under : Prop := st.state = .seated ∨ st.state = .ramping ∨ st.state = .holding ∨ st.state = .settling
      ∨ (st.state = .venting ∧ st.aborted = false)
    (s.HearsStation h [2] i →
        (st.state = .vacant → becomes (.sealFault h []) 2 (x.updStation i fun st => { st with sealPending := true }))
          ∧ (under → becomes (.sealFault h []) 2 (x.abortTest i .seal))
          ∧ (st.state ≠ .vacant → ¬ under → becomes (.sealFault h []) 2 x.ignored))
      ∧ (s.HearsStation h [5] i →
        ((st.state = .releasing ∨ st.state = .resync) → st.leaving = false → becomes (.released h []) 5 (emptied x))
          ∧ ((st.state = .releasing ∨ st.state = .resync) → st.leaving = true → becomes (.released h []) 5
            (x.updStation i fun st => { st with state := .outOfService, deadline := none, leaving := false }))
          ∧ (st.state = .vacant → becomes (.released h []) 5 (x.updStation i fun st => { st with sealPending := false }))
          ∧ (st.state.inCycle = true → becomes (.released h []) 5 (emptied (x.endTest i .superseded)))
          ∧ (st.state = .outOfService ∨ st.state = .faulted → becomes (.released h []) 5 x.ignored))
      ∧ (s.HearsStation h [6] i →
        (st.state = .outOfService → becomes (.burst h []) 6 x.ignored)
          ∧ (st.state ≠ .outOfService → st.record = none → becomes (.burst h []) 6 (faulted x))
          ∧ (st.state ≠ .outOfService → st.record ≠ none → becomes (.burst h []) 6 (faulted (x.concludeTest i .burst))))

/-- R68: at a clock value of 512 modulo 1024 each watched station whose last frame is more than its silence limit ago has its
test ended as SILENT, enters FAULTED and has ABORT offered, in ascending order, each in its own event; at another clock value
there is no scan (log entry 19). The watched states are SEATED..RELEASING, those of a test's cycle SEATED..SETTLING (R66). -/
def Obligations.ScanFindsTheSilent : Prop :=
  (∀ st : StState, (st.watched = true ↔ st ∈ [StState.seated, .ramping, .holding, .venting, .settling, .releasing])
      ∧ (st.inCycle = true ↔ st ∈ [StState.seated, .ramping, .holding, .venting, .settling]))
  ∧ ∀ s : State,
    let silent (t : State) (i : StationNo) : Prop :=
      (t.station i).state.watched = true ∧ (t.station i).cfg.silence * 1000 < (t.clock - (t.station i).lastFrame).toNat
    (s.clock.toNat % 1024 ≠ 512 → exec .supervisionScan s = .next s)
      ∧ (s.clock.toNat % 1024 = 512 → exec .supervisionScan s = .next ((List.finRange 8).foldl (fun t i =>
          if silent t i then
            State.endEvent (((t.endTest i .silent).updStation i fun st => { st with
              state := .faulted, record := none, deadline := none, extensionEnd := none, aborted := false
              leaving := false, sealPending := false }).offer (.station i) (t.station i).cfg.addr (.order .abort))
          else t) s))
      ∧ (s.clock.toNat % 1024 = 512 → ∀ t, exec .supervisionScan s = .next t → ∀ i,
          (silent s i → (t.station i).state = .faulted) ∧ (¬ silent s i → t.station i = s.station i))

/-- R95, R96, R99, R105, R107: REACHED for the step last ordered has the next step ordered, with its target, or begins the
hold; VENTED begins the settling, or releases an aborted test's cylinder. In any other state, or for another step, they are
ignored and counted (R78). -/
def Obligations.ReachedAndVented : Prop :=
  ∀ (s : State) (h : Hdr) (i : StationNo) (n : RecNo) (r : Record) (b : Byte),
    let st := s.station i
    let e := s.typeEntry r
    let k := b.toNat
    let x := s.heardFrom h i
    let secs (m : Nat) : Option Clock := some (s.clock + BitVec.ofNat 32 (m * 1000))
    let becomes (c : Instr) (p : List Byte) (t : State) : Prop := exec c s = .next (t.passOn (frameTo s h 4 p) true)
    (s.HearsStation h [3, b] i →
        (s.Tests i n r → st.state = .ramping → k = st.step → k < e.steps → becomes (.reached h [b]) [3, b]
            ((x.offer (.station i) st.cfg.addr
              (.order (.step (k + 1) (if k + 1 = e.steps then e.pt else e.pt * (k + 1) / e.steps)))).updStation i
                fun st => { st with step := k + 1, deadline := secs e.stepTimeout }))
          ∧ (s.Tests i n r → st.state = .ramping → k = st.step → e.steps ≤ k → becomes (.reached h [b]) [3, b]
            ((x.putRec n (some { r with result := r.result.map fun t => { t with pressures := none } })).updStation i
              fun st => { st with state := .holding, deadline := secs e.holdTime, window := [], pressures := none }))
          ∧ (st.state ≠ .ramping ∨ k ≠ st.step → becomes (.reached h [b]) [3, b] x.ignored))
      ∧ (s.HearsStation h [4] i →
        (st.state = .venting → st.aborted = true → becomes (.vented h []) [4]
            ((x.offer (.station i) st.cfg.addr (.order .release)).updStation i fun st => { st with
              state := .releasing, record := none, deadline := secs 60, extensionEnd := none, aborted := false
              sealPending := false }))
          ∧ (s.Tests i n r → st.state = .venting → st.aborted = false → becomes (.vented h []) [4]
            (x.updStation i fun st => { st with state := .settling, deadline := secs e.settleTime, window := [] }))
          ∧ (st.state ≠ .venting → becomes (.vented h []) [4] x.ignored))

/-- R78, R88, R91, R111: a SAMPLE outside SEATED..SETTLING, and a stale one, sets the last frame time and nothing else; one
in VENTING with the aborted flag set moves the expected sequence on and enters the window unless a field reports a failed
sensor. -/
def Obligations.SampleIsPassedOver : Prop :=
  ∀ (s : State) (h : Hdr) (i : StationNo) (seq : Byte) (pr lv tp : Nat), pr < 65536 → lv < 65536 → tp < 65536 →
    let p := samplePayload seq pr lv tp
    s.HearsStation h p i →
    let st := s.station i
    let x := s.heardFrom h i
    let becomes (t : State) : Prop := exec (.sample h p) s = .next (t.passOn (frameTo s h 3 p) true)
    let failed : Prop := pr = 65535 ∨ lv = 65535 ∨ tp = 65535
    let fresh : Prop := ∀ q, st.expected = some q → (seq - q).toNat < 128
    let w : List Sample := st.window ++ [⟨pr, lv, min tp 9999⟩]
    (st.state.inCycle = false → becomes x)
      ∧ (st.state.inCycle = true → ¬ fresh → becomes x)
      ∧ (st.state = .venting → st.aborted = true → fresh → failed →
        becomes (x.updStation i fun st => { st with expected := some (seq + 1) }))
      ∧ (st.state = .venting → st.aborted = true → fresh → ¬ failed →
        becomes (x.updStation i fun st => { st with expected := some (seq + 1), window := w.drop (w.length - 16) }))

/-- R87 to R93, R95, R98, R100: a SAMPLE in a test: the expected sequence moves on; missed samples are counted and may end a
hold or a settle; a failed sensor ends the test; else the sample enters the window and the phase acts: zero is captured and
step 1 ordered when the window is stable at low pressure; too high a pressure while ramping or holding is an overpressure,
and too low a one while holding loses the pressure. -/
def Obligations.SampleActsInATest : Prop :=
  ∀ (s : State) (h : Hdr) (i : StationNo) (n : RecNo) (r : Record) (seq : Byte) (pr lv tp d : Nat),
    pr < 65536 → lv < 65536 → tp < 65536 →
    let p := samplePayload seq pr lv tp
    let st := s.station i
    s.HearsStation h p i → s.Tests i n r → st.state.inCycle = true → ¬ (st.state = .venting ∧ st.aborted = true) →
    (st.expected = none ∧ d = 0 ∨ ∃ q, st.expected = some q ∧ d = (seq - q).toNat ∧ d < 128) →
    let e := s.typeEntry r
    let becomes (t : State) : Prop := exec (.sample h p) s = .next (t.passOn (frameTo s h 3 p) true)
    let failed : Prop := pr = 65535 ∨ lv = 65535 ∨ tp = 65535
    let gaps := if d = 0 then st.gaps else min (st.gaps + d) 255
    let r1 := if d = 0 ∨ st.state = .seated then r else { r with result := r.result.map fun t => { t with gaps := gaps } }
    let t1 := ((s.heardFrom h i).putRec n (some r1)).updStation i fun st => { st with
      expected := some (seq + 1), gaps := gaps }
    let missed : Prop := d ≠ 0 ∧ (st.state = .holding ∨ st.state = .settling)
      ∧ (s.mgmt.latched.gapMode = .strict ∨ 3 < gaps)
    let w : List Sample := (st.window ++ [(⟨pr, lv, min tp 9999⟩ : Sample)]).drop (st.window.length + 1 - 16)
    let latest := w.drop (w.length - e.window)
    let ready : Prop := e.window ≤ w.length ∧ (∀ a ∈ latest, ∀ b ∈ latest, a.level ≤ b.level + e.stabBand)
      ∧ pr ≤ e.pt / 50
    let t2 := t1.updStation i fun st => { st with window := w }
    let order (o : Order) (t : State) : State := t.offer (.station i) st.cfg.addr (.order o)
    let tooHigh (t : State) : State := (order .vent (t.concludeTest i .overpressure)).updStation i fun st => { st with
      state := .venting, aborted := true, extensionEnd := none
      deadline := some (s.clock + BitVec.ofNat 32 (e.ventTimeout * 1000)) }
    let range : PressureRange := match st.pressures with
      | none => ⟨pr, pr⟩
      | some z => ⟨min z.pmin pr, max z.pmax pr⟩
    let held := (t2.putRec n (some { r1 with
      result := r1.result.map fun t => { t with pressures := some range } })).updStation i fun st => { st with
        pressures := some range }
    let begun := { r1 with
      attempts := min (r.attempts + 1) 15
      result := some ⟨i, min (r.attempts + 1) 15, (match r.bank with | some b => b.gen | none => 0),
        ⟨lv, min tp 9999⟩, gaps, none, none, none, none⟩ }
    (missed → becomes (t1.abortTest i .sampleGaps))
      ∧ (¬ missed → failed → becomes (t1.abortTest i .sensor))
      ∧ (¬ missed → ¬ failed →
        (st.state = .seated → ready → becomes ((order (.step 1 (if 1 = e.steps then e.pt else e.pt * 1 / e.steps))
            (t2.putRec n (some begun))).updStation i fun st => { st with
              state := .ramping, step := 1
              deadline := some (s.clock + BitVec.ofNat 32 (e.stepTimeout * 1000)) }))
          ∧ (st.state = .seated → ¬ ready → becomes t2)
          ∧ (st.state = .ramping → e.pt + e.band < pr → becomes (tooHigh t2))
          ∧ (st.state = .ramping → pr ≤ e.pt + e.band → becomes t2)
          ∧ (st.state = .holding → e.pt + e.band < pr → becomes (tooHigh held))
          ∧ (st.state = .holding → pr < e.pt → becomes (held.abortTest i .pressureLost))
          ∧ (st.state = .holding → e.pt ≤ pr → pr ≤ e.pt + e.band → becomes held)
          ∧ (st.state = .venting ∨ st.state = .settling → becomes t2))

/-- R101, R102, R103: the hold deadline, or an extension check in HOLDING: with a stable window the hold's last reading is
captured and VENT ordered; unstable, the hold is extended by checks one sample period apart up to the extension end, or the
test ends as UNSTABLE at that end. A deadline not reached, or not armed for the hold, does nothing. -/
def Obligations.HoldEnds : Prop :=
  ∀ (s : State) (i : StationNo),
    let st := s.station i
    (st.state ≠ .holding ∨ st.extensionEnd ≠ none ∨ st.deadline = none →
        exec (.holdDeadline i) s = .next s.endEvent)
      ∧ ∀ (n : RecNo) (r : Record) (d : Clock) (c : Instr), s.Tests i n r → st.state = .holding → st.deadline = some d →
        (c = .holdDeadline i ∧ st.extensionEnd = none ∨ c = .extensionCheck i ∧ st.extensionEnd ≠ none) →
        let e := s.typeEntry r
        let due (x : Clock) : Prop := (s.clock - x).toNat < 2147483648
        let latest := st.window.drop (st.window.length - e.window)
        let stable : Prop := e.window ≤ st.window.length ∧ ∀ a ∈ latest, ∀ b ∈ latest, a.level ≤ b.level + e.stabBand
        let last := st.extensionEnd.getD (d + BitVec.ofNat 32 (e.maxExtension * 1000))
        let check := s.clock + BitVec.ofNat 32 st.cfg.period
        let captured := { r with
          result := r.result.map fun t => { t with total := st.window.getLast?.map fun x => ⟨x.level, x.temp⟩ } }
        (¬ due d → exec c s = .next s.endEvent)
          ∧ (due d → stable → exec c s = .next (State.endEvent
            (((s.putRec n (some captured)).offer (.station i) st.cfg.addr (.order .vent)).updStation i fun st => { st with
              state := .venting, aborted := false, extensionEnd := none
              deadline := some (s.clock + BitVec.ofNat 32 (e.ventTimeout * 1000)) })))
          ∧ (due d → ¬ stable → due last → exec c s = .next (s.abortTest i .unstable).endEvent)
          ∧ (due d → ¬ stable → ¬ due last → exec c s = .next (State.endEvent (s.updStation i fun st => { st with
              extensionEnd := some last
              deadline := some (if (check - last).toNat < 2147483648 then last else check) })))

/-- R102, R107, R113, R119, R121: the settle deadline, or an extension check in SETTLING: with a stable window the last
reading is captured, the expansion formed with the station's coefficient, the verdict of the verdict order given with test
figures, and RELEASE ordered; unstable, as in the hold. A deadline not reached, or not armed for the settle, does
nothing. -/
def Obligations.SettleEnds : Prop :=
  ∀ (s : State) (i : StationNo),
    let st := s.station i
    (st.state ≠ .settling ∨ st.extensionEnd ≠ none ∨ st.deadline = none →
        exec (.settleDeadline i) s = .next s.endEvent)
      ∧ ((st.state ≠ .holding ∧ st.state ≠ .settling) ∨ st.extensionEnd = none ∨ st.deadline = none →
        exec (.extensionCheck i) s = .next s.endEvent)
      ∧ ∀ (n : RecNo) (r : Record) (t : TestResult) (total : Reading) (d : Clock) (c : Instr), s.Tests i n r →
        st.state = .settling → st.deadline = some d → r.result = some t → t.total = some total →
        (c = .settleDeadline i ∧ st.extensionEnd = none ∨ c = .extensionCheck i ∧ st.extensionEnd ≠ none) →
        let e := s.typeEntry r
        let due (x : Clock) : Prop := (s.clock - x).toNat < 2147483648
        let latest := st.window.drop (st.window.length - e.window)
        let stable : Prop := e.window ≤ st.window.length ∧ ∀ a ∈ latest, ∀ b ∈ latest, a.level ≤ b.level + e.stabBand
        let last := st.extensionEnd.getD (d + BitVec.ofNat 32 (e.maxExtension * 1000))
        let check := s.clock + BitVec.ofNat 32 st.cfg.period
        (¬ due d → exec c s = .next s.endEvent)
          ∧ (due d → stable → ∀ x, st.window.getLast? = some x →
            let found := expansionOf st.cfg.k t.zero total ⟨x.level, x.temp⟩
            let judged := { r with
              result := some { t with settled := some ⟨x.level, x.temp⟩, expansion := some found } }
            exec c s = .next (State.endEvent
              ((((s.putRec n (some judged)).giveVerdict n (verdictOrder e r (.captured found)) true).offer (.station i)
                st.cfg.addr (.order .release)).updStation i fun st => { st with
                  state := .releasing, record := none, deadline := some (s.clock + 60000), extensionEnd := none
                  aborted := false, sealPending := false })))
          ∧ (due d → ¬ stable → due last → exec c s = .next (s.abortTest i .unstable).endEvent)
          ∧ (due d → ¬ stable → ¬ due last → exec c s = .next (State.endEvent (s.updStation i fun st => { st with
              extensionEnd := some last
              deadline := some (if (check - last).toNat < 2147483648 then last else check) })))

/-- R67, R94, R97, R106, R109: the zero, step, vent and release deadlines, reached in the state they were armed for, end the
test with their reason, the first two by the ordinary abort path and the last two with the station FAULTED and ABORT
offered; otherwise nothing expires (log entry 2). -/
def Obligations.PhaseDeadlinesExpire : Prop :=
  ∀ (s : State) (i : StationNo),
    let st := s.station i
    let due : Prop := ∃ d, st.deadline = some d ∧ (s.clock - d).toNat < 2147483648
    let faulted (t : State) : State := (t.updStation i fun st => { st with
      state := .faulted, record := none, deadline := none, extensionEnd := none, aborted := false, leaving := false
      sealPending := false }).offer (.station i) st.cfg.addr (.order .abort)
    (∀ c ∈ [(Instr.zeroDeadline i, StState.seated), (.stepDeadline i, .ramping), (.ventDeadline i, .venting),
        (.releaseDeadline i, .releasing)], ¬ (st.state = c.2 ∧ due) → exec c.1 s = .next s.endEvent)
      ∧ (st.state = .seated → due → exec (.zeroDeadline i) s = .next (s.abortTest i .zeroUnstable).endEvent)
      ∧ (st.state = .ramping → due → exec (.stepDeadline i) s = .next (s.abortTest i .stepTimeout).endEvent)
      ∧ (st.state = .venting → due → exec (.ventDeadline i) s = .next (faulted (s.endTest i .ventTimeout)).endEvent)
      ∧ (st.state = .releasing → due → exec (.releaseDeadline i) s = .next (faulted s).endEvent)

/-! ## Actuators (chapter 7) -/

/-- R144 to R148, R152, R153: an arrival at an actuator: not taken while the gate is closed or an order is in flight; of a
listed record, the entries ahead of it are passed by, the record is at the actuator, its order is offered and the dispatcher
holds it with its deadline; a record of the other list is held as misrouted and refused; any other serial is refused and
counted. An entry passed by for the eighth time is LOST. R134, R152: each actuator has its role, its source, its list and its
record state. R184: a notice offered joins the Notice FIFO, or is dropped and counted where the ring is DOWN or the FIFO
holds 8. -/
def Obligations.ArrivalAtAnActuator : Prop :=
  (Actuator.press.role, Actuator.press.src, Actuator.press.atState, Actuator.press.listId, Actuator.press.other)
    = (.markingPress, .mark, .atPress, .mark, .scrapCell)
  ∧ (Actuator.scrapCell.role, Actuator.scrapCell.src, Actuator.scrapCell.atState, Actuator.scrapCell.listId,
      Actuator.scrapCell.other) = (.scrapCell, .scrap, .atScrapCell, .scrap, .press)
  ∧ (∀ (s : State) (x : Notice), s.offerNotice x
      = if s.port.monitor = .up ∧ s.mgmt.notices.length < 8 then
          { s with mgmt := { s.mgmt with notices := s.mgmt.notices ++ [x] } }
        else s.tally .dropped)
  ∧ ∀ (a : Actuator) (s : State) (h : Hdr) (p : List Byte), s.HearsRole h p a.role →
    let c := match a with
      | .press => Instr.arrivalAtPress h p
      | .scrapCell => .arrivalAtScrapCell h p
    let x := s.heard h
    let becomes (t : State) : Prop := exec c s = .next (t.passOn (frameTo s h 1 p) true)
    let refused (field : List Byte) (t : State) : State :=
      { t.offer a.src h.src (.order (.refuse (echoField field))) with
        dispatch := t.dispatch.setDisp a (.refusing (serialCut field)) }
    (p.length ≠ 25 → becomes x.ignored)
      ∧ (p.length = 25 → (s.dispatch.gate = .gateClosed ∨ s.dispatch.disp a ≠ .idle) →
        exec c s = .next (x.passOn (frameTo s h 1 p) false))
      ∧ (s.dispatch.gate = .gateOpen → s.dispatch.disp a = .idle → ∀ field maker model year tare,
        p = tagPayload field maker model year tare → field.length = 17 →
        (serialOf field = none → becomes (refused field x).ignored)
          ∧ ∀ sr, serialOf field = some sr →
            ((∀ m ∈ s.dispatch.markList ++ s.dispatch.scrapList, ∀ q, s.getRec m = some q → q.serial ≠ sr) →
                becomes (refused field x).ignored)
              ∧ (∀ n r, s.Holds sr n r → n ∈ s.dispatch.list a.other → n ∉ s.dispatch.list a →
                becomes (refused field { x.putRec n (some { r with state := .hold, holdReason := some .misroute }) with
                  dispatch := x.dispatch.setList a.other ((s.dispatch.list a.other).filter fun m => m != n) }))
              ∧ ∀ n r u v cal why, s.Holds sr n r → s.dispatch.list a = u ++ n :: v → n ∉ u →
                (a = .press → s.mgmt.calendar = some cal) → (a = .scrapCell → r.verdict = some (.condemn why)) →
                let order : Order := match a with
                  | .press => .stamp sr s.mgmt.latched.mark cal.month (cal.year - 2000)
                  | .scrapCell => .condemn sr why
                let y := u.foldl (State.passBy a) x
                let ms := match a with | .press => 30000 | .scrapCell => 60000
                becomes { (y.putRec n (some { r with state := a.atState })).offer a.src h.src (.order order) with
                  dispatch := (y.dispatch.setList a ((y.dispatch.list a).filter fun m => m != n)).setDisp a
                    (.acting ⟨n, sr, r.openSeq, s.clock + ms⟩) })
      ∧ ∀ (t : State) (m : RecNo) (q : Record), t.getRec m = some q →
        (q.passedBy < 7 → t.passBy a m = t.putRec m (some { q with passedBy := q.passedBy + 1 }))
          ∧ (7 ≤ q.passedBy → t.passBy a m = (State.tally .lost { t.putRec m (some { q with state := .lost }) with
              dispatch := t.dispatch.setList a ((t.dispatch.list a).filter fun k => k != m)
              records := { t.records with
                table := t.records.table.set m.val (some { q with state := .lost }) m.isLt
                closed := t.records.closed ++ [m] } }).offerNotice (.lost m q.serial q.verdict a.listId))

/-- R150 to R153: a DONE of the record in flight closes it when OK and holds it when FAULT, and the dispatcher is IDLE; any
other DONE is ignored and counted. The stamp or condemn deadline, once reached, holds the record as unconfirmed and turns
the actuator offline; before that nothing happens. The states and reasons are MARKED, STAMP FAULT and STAMP UNCONFIRMED at
the press, and SCRAPPED, CONDEMN FAULT and CONDEMN UNCONFIRMED at the scrap cell (R28, R150 to R152). -/
def Obligations.DoneAndUnconfirmed : Prop :=
  (Actuator.press.doneState, Actuator.press.faultReason, Actuator.press.unconfirmedReason)
    = (.marked, .stampFault, .stampUnconfirmed)
  ∧ (Actuator.scrapCell.doneState, Actuator.scrapCell.faultReason, Actuator.scrapCell.unconfirmedReason)
    = (.scrapped, .condemnFault, .condemnUnconfirmed)
  ∧ (∀ (d : DispatchUnit) (x : ActDispatcher) (b : Bool),
      (d.disp .press, d.disp .scrapCell, d.offline .press, d.offline .scrapCell, d.stale .press, d.stale .scrapCell)
          = (d.markD, d.scrapD, d.pressOffline, d.scrapOffline, d.markStale, d.scrapStale)
        ∧ (d.setDisp .press x, d.setDisp .scrapCell x) = ({ d with markD := x }, { d with scrapD := x })
        ∧ (d.setOffline .press b, d.setOffline .scrapCell b) = ({ d with pressOffline := b }, { d with scrapOffline := b }))
  ∧ ∀ (a : Actuator) (s : State) (h : Hdr) (p : List Byte) (c : InFlight) (r : Record),
    let done := match a with
      | .press => Instr.doneFromPress h p
      | .scrapCell => .doneFromScrapCell h p
    let deadline := match a with
      | .press => Instr.stampDeadline
      | .scrapCell => .condemnDeadline
    let becomes (t : State) : Prop := exec done s = .next (t.passOn (frameTo s h 5 p) true)
    (s.HearsRole h p a.role →
        (s.dispatch.disp a = .acting c → s.getRec c.record = some r → ∀ field b, field.length = 17 →
          serialOf field = some c.serial → p = field ++ [b] →
          (b = 1 → becomes { (s.heard h) with
              records := { s.records with
                table := s.records.table.set c.record.val (some { r with state := a.doneState }) c.record.isLt
                closed := s.records.closed ++ [c.record] }
              dispatch := (s.heard h).dispatch.setDisp a .idle })
            ∧ (b = 2 → becomes { (s.heard h).putRec c.record
                (some { r with state := .hold, holdReason := some a.faultReason }) with
              dispatch := (s.heard h).dispatch.setDisp a .idle })
            ∧ (b ≠ 1 → b ≠ 2 → becomes (s.heard h).ignored))
          ∧ ((p.length ≠ 18 ∨ (∀ c, s.dispatch.disp a ≠ .acting c)
              ∨ ∃ c, s.dispatch.disp a = .acting c ∧ serialOf (p.take 17) ≠ some c.serial) →
            becomes (s.heard h).ignored))
      ∧ (s.dispatch.disp a = .acting c → s.getRec c.record = some r → (s.clock - c.deadline).toNat < 2147483648 →
        exec deadline s = .next { s.putRec c.record
            (some { r with state := .hold, holdReason := some a.unconfirmedReason }) with
          dispatch := (s.dispatch.setOffline a true).setDisp a .idle })
      ∧ (s.dispatch.disp a = .acting c → ¬ (s.clock - c.deadline).toNat < 2147483648 → exec deadline s = .next s)
      ∧ ((∀ c, s.dispatch.disp a ≠ .acting c) → exec deadline s = .next s)
end

