-- ==== Sys2Proof/Laws/State.lean ====
section
/-!
SUPPORT. One lemma per field per update: what each update of a block leaves of every other block, and the updates of the
smaller records. All are true by `rfl`.
-/

namespace Sys2Proof.Machine

section updBanks
variable (s : State) (f : TypeBanks → TypeBanks)

@[simp] theorem State.updBanks_clock : (s.updBanks f).clock = s.clock := rfl
@[simp] theorem State.updBanks_banks : (s.updBanks f).banks = f s.banks := rfl
@[simp] theorem State.updBanks_records : (s.updBanks f).records = s.records := rfl
@[simp] theorem State.updBanks_stations : (s.updBanks f).stations = s.stations := rfl
@[simp] theorem State.updBanks_dispatch : (s.updBanks f).dispatch = s.dispatch := rfl
@[simp] theorem State.updBanks_port : (s.updBanks f).port = s.port := rfl
@[simp] theorem State.updBanks_mgmt : (s.updBanks f).mgmt = s.mgmt := rfl
@[simp] theorem State.updBanks_roles : (s.updBanks f).roles = s.roles := rfl
@[simp] theorem State.updBanks_cuts : (s.updBanks f).cuts = s.cuts := rfl
@[simp] theorem State.updBanks_pending : (s.updBanks f).pending = s.pending := rfl

end updBanks

section updRecords
variable (s : State) (f : RecordTable → RecordTable)

@[simp] theorem State.updRecords_clock : (s.updRecords f).clock = s.clock := rfl
@[simp] theorem State.updRecords_banks : (s.updRecords f).banks = s.banks := rfl
@[simp] theorem State.updRecords_records : (s.updRecords f).records = f s.records := rfl
@[simp] theorem State.updRecords_stations : (s.updRecords f).stations = s.stations := rfl
@[simp] theorem State.updRecords_dispatch : (s.updRecords f).dispatch = s.dispatch := rfl
@[simp] theorem State.updRecords_port : (s.updRecords f).port = s.port := rfl
@[simp] theorem State.updRecords_mgmt : (s.updRecords f).mgmt = s.mgmt := rfl
@[simp] theorem State.updRecords_roles : (s.updRecords f).roles = s.roles := rfl
@[simp] theorem State.updRecords_cuts : (s.updRecords f).cuts = s.cuts := rfl
@[simp] theorem State.updRecords_pending : (s.updRecords f).pending = s.pending := rfl

end updRecords

section updDispatch
variable (s : State) (f : DispatchUnit → DispatchUnit)

@[simp] theorem State.updDispatch_clock : (s.updDispatch f).clock = s.clock := rfl
@[simp] theorem State.updDispatch_banks : (s.updDispatch f).banks = s.banks := rfl
@[simp] theorem State.updDispatch_records : (s.updDispatch f).records = s.records := rfl
@[simp] theorem State.updDispatch_stations : (s.updDispatch f).stations = s.stations := rfl
@[simp] theorem State.updDispatch_dispatch : (s.updDispatch f).dispatch = f s.dispatch := rfl
@[simp] theorem State.updDispatch_port : (s.updDispatch f).port = s.port := rfl
@[simp] theorem State.updDispatch_mgmt : (s.updDispatch f).mgmt = s.mgmt := rfl
@[simp] theorem State.updDispatch_roles : (s.updDispatch f).roles = s.roles := rfl
@[simp] theorem State.updDispatch_cuts : (s.updDispatch f).cuts = s.cuts := rfl
@[simp] theorem State.updDispatch_pending : (s.updDispatch f).pending = s.pending := rfl

end updDispatch

section updPort
variable (s : State) (f : RingPort → RingPort)

@[simp] theorem State.updPort_clock : (s.updPort f).clock = s.clock := rfl
@[simp] theorem State.updPort_banks : (s.updPort f).banks = s.banks := rfl
@[simp] theorem State.updPort_records : (s.updPort f).records = s.records := rfl
@[simp] theorem State.updPort_stations : (s.updPort f).stations = s.stations := rfl
@[simp] theorem State.updPort_dispatch : (s.updPort f).dispatch = s.dispatch := rfl
@[simp] theorem State.updPort_port : (s.updPort f).port = f s.port := rfl
@[simp] theorem State.updPort_mgmt : (s.updPort f).mgmt = s.mgmt := rfl
@[simp] theorem State.updPort_roles : (s.updPort f).roles = s.roles := rfl
@[simp] theorem State.updPort_cuts : (s.updPort f).cuts = s.cuts := rfl
@[simp] theorem State.updPort_pending : (s.updPort f).pending = s.pending := rfl

end updPort

section updMgmt
variable (s : State) (f : Management → Management)

@[simp] theorem State.updMgmt_clock : (s.updMgmt f).clock = s.clock := rfl
@[simp] theorem State.updMgmt_banks : (s.updMgmt f).banks = s.banks := rfl
@[simp] theorem State.updMgmt_records : (s.updMgmt f).records = s.records := rfl
@[simp] theorem State.updMgmt_stations : (s.updMgmt f).stations = s.stations := rfl
@[simp] theorem State.updMgmt_dispatch : (s.updMgmt f).dispatch = s.dispatch := rfl
@[simp] theorem State.updMgmt_port : (s.updMgmt f).port = s.port := rfl
@[simp] theorem State.updMgmt_mgmt : (s.updMgmt f).mgmt = f s.mgmt := rfl
@[simp] theorem State.updMgmt_roles : (s.updMgmt f).roles = s.roles := rfl
@[simp] theorem State.updMgmt_cuts : (s.updMgmt f).cuts = s.cuts := rfl
@[simp] theorem State.updMgmt_pending : (s.updMgmt f).pending = s.pending := rfl

end updMgmt

section updStation
variable (s : State) (i : StationNo) (f : Station → Station)

@[simp] theorem State.updStation_clock : (s.updStation i f).clock = s.clock := rfl
@[simp] theorem State.updStation_banks : (s.updStation i f).banks = s.banks := rfl
@[simp] theorem State.updStation_records : (s.updStation i f).records = s.records := rfl
@[simp] theorem State.updStation_stations : (s.updStation i f).stations = s.stations.set i.val (f (s.station i)) i.isLt := rfl
@[simp] theorem State.updStation_dispatch : (s.updStation i f).dispatch = s.dispatch := rfl
@[simp] theorem State.updStation_port : (s.updStation i f).port = s.port := rfl
@[simp] theorem State.updStation_mgmt : (s.updStation i f).mgmt = s.mgmt := rfl
@[simp] theorem State.updStation_roles : (s.updStation i f).roles = s.roles := rfl
@[simp] theorem State.updStation_cuts : (s.updStation i f).cuts = s.cuts := rfl
@[simp] theorem State.updStation_pending : (s.updStation i f).pending = s.pending := rfl

end updStation

section tallyBy
variable (s : State) (t : Tally) (k : Nat)

@[simp] theorem State.tallyBy_clock : (s.tallyBy t k).clock = s.clock := rfl
@[simp] theorem State.tallyBy_banks : (s.tallyBy t k).banks = s.banks := rfl
@[simp] theorem State.tallyBy_records : (s.tallyBy t k).records = s.records := rfl
@[simp] theorem State.tallyBy_stations : (s.tallyBy t k).stations = s.stations := rfl
@[simp] theorem State.tallyBy_dispatch : (s.tallyBy t k).dispatch = s.dispatch := rfl
@[simp] theorem State.tallyBy_port : (s.tallyBy t k).port = s.port := rfl
@[simp] theorem State.tallyBy_mgmt : (s.tallyBy t k).mgmt = { s.mgmt with tallies := s.mgmt.tallies.add k t } := rfl
@[simp] theorem State.tallyBy_roles : (s.tallyBy t k).roles = s.roles := rfl
@[simp] theorem State.tallyBy_cuts : (s.tallyBy t k).cuts = s.cuts := rfl
@[simp] theorem State.tallyBy_pending : (s.tallyBy t k).pending = s.pending := rfl

end tallyBy

section tally
variable (s : State) (t : Tally)

@[simp] theorem State.tally_clock : (s.tally t).clock = s.clock := rfl
@[simp] theorem State.tally_banks : (s.tally t).banks = s.banks := rfl
@[simp] theorem State.tally_records : (s.tally t).records = s.records := rfl
@[simp] theorem State.tally_stations : (s.tally t).stations = s.stations := rfl
@[simp] theorem State.tally_dispatch : (s.tally t).dispatch = s.dispatch := rfl
@[simp] theorem State.tally_port : (s.tally t).port = s.port := rfl
@[simp] theorem State.tally_mgmt : (s.tally t).mgmt = { s.mgmt with tallies := s.mgmt.tallies.add 1 t } := rfl
@[simp] theorem State.tally_roles : (s.tally t).roles = s.roles := rfl
@[simp] theorem State.tally_cuts : (s.tally t).cuts = s.cuts := rfl
@[simp] theorem State.tally_pending : (s.tally t).pending = s.pending := rfl

end tally

section ignored
variable (s : State)

@[simp] theorem State.ignored_clock : (s.ignored).clock = s.clock := rfl
@[simp] theorem State.ignored_banks : (s.ignored).banks = s.banks := rfl
@[simp] theorem State.ignored_records : (s.ignored).records = s.records := rfl
@[simp] theorem State.ignored_stations : (s.ignored).stations = s.stations := rfl
@[simp] theorem State.ignored_dispatch : (s.ignored).dispatch = s.dispatch := rfl
@[simp] theorem State.ignored_port : (s.ignored).port = s.port := rfl
@[simp] theorem State.ignored_mgmt : (s.ignored).mgmt = { s.mgmt with tallies := s.mgmt.tallies.add 1 .ignored } := rfl
@[simp] theorem State.ignored_roles : (s.ignored).roles = s.roles := rfl
@[simp] theorem State.ignored_cuts : (s.ignored).cuts = s.cuts := rfl
@[simp] theorem State.ignored_pending : (s.ignored).pending = s.pending := rfl

end ignored

section putRec
variable (s : State) (n : RecNo) (r : Option Record)

@[simp] theorem State.putRec_clock : (s.putRec n r).clock = s.clock := rfl
@[simp] theorem State.putRec_banks : (s.putRec n r).banks = s.banks := rfl
@[simp] theorem State.putRec_records : (s.putRec n r).records = { s.records with table := s.records.table.set n.val r n.isLt } := rfl
@[simp] theorem State.putRec_stations : (s.putRec n r).stations = s.stations := rfl
@[simp] theorem State.putRec_dispatch : (s.putRec n r).dispatch = s.dispatch := rfl
@[simp] theorem State.putRec_port : (s.putRec n r).port = s.port := rfl
@[simp] theorem State.putRec_mgmt : (s.putRec n r).mgmt = s.mgmt := rfl
@[simp] theorem State.putRec_roles : (s.putRec n r).roles = s.roles := rfl
@[simp] theorem State.putRec_cuts : (s.putRec n r).cuts = s.cuts := rfl
@[simp] theorem State.putRec_pending : (s.putRec n r).pending = s.pending := rfl

end putRec

section offer
variable (s : State) (k : Src) (dst : Byte) (b : Body)

@[simp] theorem State.offer_clock : (s.offer k dst b).clock = s.clock := rfl
@[simp] theorem State.offer_banks : (s.offer k dst b).banks = s.banks := rfl
@[simp] theorem State.offer_records : (s.offer k dst b).records = s.records := rfl
@[simp] theorem State.offer_stations : (s.offer k dst b).stations = s.stations := rfl
@[simp] theorem State.offer_dispatch : (s.offer k dst b).dispatch = s.dispatch := rfl
@[simp] theorem State.offer_port : (s.offer k dst b).port = s.port.offer ⟨k, dst, b, false⟩ := rfl
@[simp] theorem State.offer_mgmt : (s.offer k dst b).mgmt = s.mgmt := rfl
@[simp] theorem State.offer_roles : (s.offer k dst b).roles = s.roles := rfl
@[simp] theorem State.offer_cuts : (s.offer k dst b).cuts = s.cuts := rfl
@[simp] theorem State.offer_pending : (s.offer k dst b).pending = s.pending := rfl

end offer

section setBank
variable (s : State) (k : BankId) (x : Bank)

@[simp] theorem State.setBank_clock : (s.setBank k x).clock = s.clock := rfl
@[simp] theorem State.setBank_banks : (s.setBank k x).banks = s.banks.set k x := rfl
@[simp] theorem State.setBank_records : (s.setBank k x).records = s.records := rfl
@[simp] theorem State.setBank_stations : (s.setBank k x).stations = s.stations := rfl
@[simp] theorem State.setBank_dispatch : (s.setBank k x).dispatch = s.dispatch := rfl
@[simp] theorem State.setBank_port : (s.setBank k x).port = s.port := rfl
@[simp] theorem State.setBank_mgmt : (s.setBank k x).mgmt = s.mgmt := rfl
@[simp] theorem State.setBank_roles : (s.setBank k x).roles = s.roles := rfl
@[simp] theorem State.setBank_cuts : (s.setBank k x).cuts = s.cuts := rfl
@[simp] theorem State.setBank_pending : (s.setBank k x).pending = s.pending := rfl

end setBank

section setList
variable (s : State) (a : Actuator) (l : List RecNo)

@[simp] theorem State.setList_clock : (s.setList a l).clock = s.clock := rfl
@[simp] theorem State.setList_banks : (s.setList a l).banks = s.banks := rfl
@[simp] theorem State.setList_records : (s.setList a l).records = s.records := rfl
@[simp] theorem State.setList_stations : (s.setList a l).stations = s.stations := rfl
@[simp] theorem State.setList_dispatch : (s.setList a l).dispatch = s.dispatch.setList a l := rfl
@[simp] theorem State.setList_port : (s.setList a l).port = s.port := rfl
@[simp] theorem State.setList_mgmt : (s.setList a l).mgmt = s.mgmt := rfl
@[simp] theorem State.setList_roles : (s.setList a l).roles = s.roles := rfl
@[simp] theorem State.setList_cuts : (s.setList a l).cuts = s.cuts := rfl
@[simp] theorem State.setList_pending : (s.setList a l).pending = s.pending := rfl

end setList

section setDisp
variable (s : State) (a : Actuator) (x : ActDispatcher)

@[simp] theorem State.setDisp_clock : (s.setDisp a x).clock = s.clock := rfl
@[simp] theorem State.setDisp_banks : (s.setDisp a x).banks = s.banks := rfl
@[simp] theorem State.setDisp_records : (s.setDisp a x).records = s.records := rfl
@[simp] theorem State.setDisp_stations : (s.setDisp a x).stations = s.stations := rfl
@[simp] theorem State.setDisp_dispatch : (s.setDisp a x).dispatch = s.dispatch.setDisp a x := rfl
@[simp] theorem State.setDisp_port : (s.setDisp a x).port = s.port := rfl
@[simp] theorem State.setDisp_mgmt : (s.setDisp a x).mgmt = s.mgmt := rfl
@[simp] theorem State.setDisp_roles : (s.setDisp a x).roles = s.roles := rfl
@[simp] theorem State.setDisp_cuts : (s.setDisp a x).cuts = s.cuts := rfl
@[simp] theorem State.setDisp_pending : (s.setDisp a x).pending = s.pending := rfl

end setDisp

section setOffline
variable (s : State) (a : Actuator) (x : Bool)

@[simp] theorem State.setOffline_clock : (s.setOffline a x).clock = s.clock := rfl
@[simp] theorem State.setOffline_banks : (s.setOffline a x).banks = s.banks := rfl
@[simp] theorem State.setOffline_records : (s.setOffline a x).records = s.records := rfl
@[simp] theorem State.setOffline_stations : (s.setOffline a x).stations = s.stations := rfl
@[simp] theorem State.setOffline_dispatch : (s.setOffline a x).dispatch = s.dispatch.setOffline a x := rfl
@[simp] theorem State.setOffline_port : (s.setOffline a x).port = s.port := rfl
@[simp] theorem State.setOffline_mgmt : (s.setOffline a x).mgmt = s.mgmt := rfl
@[simp] theorem State.setOffline_roles : (s.setOffline a x).roles = s.roles := rfl
@[simp] theorem State.setOffline_cuts : (s.setOffline a x).cuts = s.cuts := rfl
@[simp] theorem State.setOffline_pending : (s.setOffline a x).pending = s.pending := rfl

end setOffline

section setRole
variable (s : State) (i : Fin 62) (r : Role)

@[simp] theorem State.setRole_clock : (s.setRole i r).clock = s.clock := rfl
@[simp] theorem State.setRole_banks : (s.setRole i r).banks = s.banks := rfl
@[simp] theorem State.setRole_records : (s.setRole i r).records = s.records := rfl
@[simp] theorem State.setRole_stations : (s.setRole i r).stations = s.stations := rfl
@[simp] theorem State.setRole_dispatch : (s.setRole i r).dispatch = { s.dispatch with
    diverterHeard := s.dispatch.diverterHeard && ((r == .diverter) == (s.roles[i] == .diverter)) } := rfl
@[simp] theorem State.setRole_port : (s.setRole i r).port = s.port := rfl
@[simp] theorem State.setRole_mgmt : (s.setRole i r).mgmt = s.mgmt := rfl
@[simp] theorem State.setRole_roles : (s.setRole i r).roles = s.roles.set i.val r i.isLt := rfl
@[simp] theorem State.setRole_cuts : (s.setRole i r).cuts = s.cuts := rfl
@[simp] theorem State.setRole_pending : (s.setRole i r).pending = s.pending := rfl

end setRole

end Sys2Proof.Machine
end

