-- ==== Sys2Proof/Laws/Ring.lean ====
section
/-!
SUPPORT. What the Ring Port does with the frame of a command: a frame composed by the model passes its check and shows the
fields it was composed of; a frame heard reaches its owner in the state `heard`; a request served comes down to `serve`.
-/

namespace Sys2Proof.Machine

/-! ## Frames -/

theorem byteOf_toNat (n : Nat) (h : n < 256) : (byteOf n).toNat = n := by
  simp [byteOf, Nat.mod_eq_of_lt h]

/-- A composed frame passes its check when its source is 1..62 and its payload fits (R159). -/
theorem composeFrame_passes (dst src kind seq : Byte) (p : List Byte) (hs : 1 ≤ src.toNat ∧ src.toNat ≤ 62)
    (hp : p.length ≤ 48) : (composeFrame dst src kind seq p).passes = true := by
  simp [Frame.passes, composeFrame, byteOf_toNat p.length (by omega), hs.1, hs.2, hp]

@[simp] theorem composeFrame_src (dst src kind seq : Byte) (p : List Byte) : (composeFrame dst src kind seq p).src = src := rfl
@[simp] theorem composeFrame_dst (dst src kind seq : Byte) (p : List Byte) : (composeFrame dst src kind seq p).dst = dst := rfl
@[simp] theorem composeFrame_payload (dst src kind seq : Byte) (p : List Byte) :
    (composeFrame dst src kind seq p).payload = p := rfl

theorem kindByte_kind (k : BitVec 4) (sp : BitVec 3) (t : Bool) : (kindByte k sp t).setWidth 4 = k := by
  revert k sp t; decide

theorem kindByte_taken (k : BitVec 4) (sp : BitVec 3) (t : Bool) : (kindByte k sp t).getLsbD 7 = t := by
  revert k sp t; decide

@[simp] theorem composeFrame_kindOf (dst src seq : Byte) (k : BitVec 4) (sp : BitVec 3) (t : Bool) (p : List Byte) :
    (composeFrame dst src (kindByte k sp t) seq p).kindOf = k := kindByte_kind k sp t

@[simp] theorem composeFrame_taken (dst src seq : Byte) (k : BitVec 4) (sp : BitVec 3) (t : Bool) (p : List Byte) :
    (composeFrame dst src (kindByte k sp t) seq p).taken = t := kindByte_taken k sp t

/-! ## A frame heard -/

/-- A frame that the part hears is classified in the state `heard`, and its event then ends. -/
theorem arrive_hears {s : State} {h : Hdr} {p : List Byte} (hh : s.Hears h p) (dst : Byte) (k : BitVec 4) :
    s.arrive (some (composeFrame dst h.src (kindByte k h.spare h.taken) h.seq p))
      = ((s.heard h).classify (composeFrame dst h.src (kindByte k h.spare h.taken) h.seq p)).endEvent := by
  obtain ⟨h1, h2, h3, h4, h5⟩ := hh
  obtain ⟨pl, hpl⟩ := Option.ne_none_iff_exists'.mp h1
  simp only [Hdr.wf, Bool.and_eq_true, decide_eq_true_eq] at h3
  have hp := composeFrame_passes dst h.src (kindByte k h.spare h.taken) h.seq p h3 (by simpa [payloadFits] using h5)
  simp [State.arrive, hpl, hp, State.validFrame, State.heard, State.active, State.tally, State.tallyBy, State.updPort,
    State.updMgmt, h2]

@[simp] theorem clearOffline_mgmt (a : Byte) (s : State) : (s.clearOffline a).mgmt = s.mgmt := by
  unfold State.clearOffline; split <;> rfl
@[simp] theorem clearOffline_port (a : Byte) (s : State) : (s.clearOffline a).port = s.port := by
  unfold State.clearOffline; split <;> rfl
@[simp] theorem clearOffline_clock (a : Byte) (s : State) : (s.clearOffline a).clock = s.clock := by
  unfold State.clearOffline; split <;> rfl
@[simp] theorem clearOffline_banks (a : Byte) (s : State) : (s.clearOffline a).banks = s.banks := by
  unfold State.clearOffline; split <;> rfl
@[simp] theorem clearOffline_records (a : Byte) (s : State) : (s.clearOffline a).records = s.records := by
  unfold State.clearOffline; split <;> rfl
@[simp] theorem clearOffline_stations (a : Byte) (s : State) : (s.clearOffline a).stations = s.stations := by
  unfold State.clearOffline; split <;> rfl
@[simp] theorem clearOffline_roles (a : Byte) (s : State) : (s.clearOffline a).roles = s.roles := by
  unfold State.clearOffline; split <;> rfl
@[simp] theorem clearOffline_cuts (a : Byte) (s : State) : (s.clearOffline a).cuts = s.cuts := by
  unfold State.clearOffline; split <;> rfl
@[simp] theorem clearOffline_pending (a : Byte) (s : State) : (s.clearOffline a).pending = s.pending := by
  unfold State.clearOffline; split <;> rfl

@[simp] theorem heard_clock (h : Hdr) (s : State) : (s.heard h).clock = s.clock := by simp [State.heard]
@[simp] theorem heard_banks (h : Hdr) (s : State) : (s.heard h).banks = s.banks := by simp [State.heard]
@[simp] theorem heard_records (h : Hdr) (s : State) : (s.heard h).records = s.records := by simp [State.heard]
@[simp] theorem heard_stations (h : Hdr) (s : State) : (s.heard h).stations = s.stations := by simp [State.heard]
@[simp] theorem heard_roles (h : Hdr) (s : State) : (s.heard h).roles = s.roles := by simp [State.heard]
@[simp] theorem heard_cuts (h : Hdr) (s : State) : (s.heard h).cuts = s.cuts := by simp [State.heard]
@[simp] theorem heard_pending (h : Hdr) (s : State) : (s.heard h).pending = s.pending := by simp [State.heard]
@[simp] theorem heard_mgmt (h : Hdr) (s : State) :
    (s.heard h).mgmt = { s.mgmt with tallies := s.mgmt.tallies.add 1 .received } := by simp [State.heard]
@[simp] theorem heard_port (h : Hdr) (s : State) :
    (s.heard h).port = { s.port with transit := (takePlace s.port.transit).getD [], lastActivity := s.clock } := by
  simp [State.heard]
@[simp] theorem heard_station (h : Hdr) (s : State) (i : StationNo) : (s.heard h).station i = s.station i := by
  simp [State.station]
@[simp] theorem heard_getRec (h : Hdr) (s : State) (n : RecNo) : (s.heard h).getRec n = s.getRec n := by
  simp [State.getRec]
@[simp] theorem heard_roleOf (h : Hdr) (s : State) (a : Byte) : (s.heard h).roleOf a = s.roleOf a := by
  simp [State.roleOf]
@[simp] theorem heard_stationAt (h : Hdr) (s : State) (a : Byte) : (s.heard h).stationAt a = s.stationAt a := by
  simp [State.stationAt]
@[simp] theorem heard_findSerial (h : Hdr) (s : State) (x : List Byte) : (s.heard h).findSerial x = s.findSerial x := by
  simp [State.findSerial]
@[simp] theorem heard_typeEntry (h : Hdr) (s : State) (r : Record) : (s.heard h).typeEntry r = s.typeEntry r := by
  simp [State.typeEntry]

/-- Every item of the Dispatch Unit is as before when a frame is heard, but for the three offline flags and the mark that the
diverter has been heard from. -/
theorem heard_dispatch (h : Hdr) (s : State) :
    (s.heard h).dispatch = { s.dispatch with
      pressOffline := s.dispatch.pressOffline && decide (s.roleOf h.src ≠ .markingPress)
      scrapOffline := s.dispatch.scrapOffline && decide (s.roleOf h.src ≠ .scrapCell)
      diverterOffline := s.dispatch.diverterOffline && decide (s.roleOf h.src ≠ .diverter)
      diverterHeard := s.dispatch.diverterHeard || decide (s.roleOf h.src = .diverter) } := by
  have hr : ∀ (p : RingPort) (m : Management) (a : Byte), State.roleOf { s with port := p, mgmt := m } a = s.roleOf a :=
    fun _ _ _ => rfl
  unfold State.heard State.clearOffline
  rw [hr]
  cases s.roleOf h.src <;>
    simp [State.setOffline, State.updDispatch, DispatchUnit.setOffline]

/-! ## The owner of a frame addressed to the part -/

/-- A heard frame addressed to the part is handled by its owner and goes on. -/
theorem arrive_frameTo {s : State} {h : Hdr} {p : List Byte} (hh : s.Hears h p) (k : BitVec 4) :
    s.arrive (some (frameTo s h k p))
      = ((s.heard h).handle (frameTo s h k p)).1.passOn (frameTo s h k p) ((s.heard h).handle (frameTo s h k p)).2 := by
  have h4 := hh.2.2.2.1
  rw [frameTo, arrive_hears hh]
  simp [State.classify, State.passOn, h4]

/-- A heard REQUEST goes to the Responder. -/
theorem handle_request (s t : State) (h : Hdr) (p : List Byte) :
    t.handle (frameTo s h Kind.request p) = t.request h.src p := by
  simp [State.handle, frameTo]

/-- A heard frame of a station, no REQUEST, goes to the Station Controller. -/
theorem handle_station {s t : State} {h : Hdr} {i : StationNo} (k : BitVec 4) (hk : k ≠ Kind.request) (p : List Byte)
    (hi : t.stationAt h.src = some i) :
    t.handle (frameTo s h k p) = (t.stationFrame i (frameTo s h k p), true) := by
  simp [State.handle, frameTo, hk, hi]

/-- Any other heard frame is owned by its source's role. -/
theorem handle_role {s t : State} {h : Hdr} (k : BitVec 4) (hk : k ≠ Kind.request) (p : List Byte)
    (hi : t.stationAt h.src = none) :
    t.handle (frameTo s h k p) = t.roleFrame (t.roleOf h.src) (frameTo s h k p) := by
  simp [State.handle, frameTo, hk, hi]

/-- A served request: its answer is computed in the state `heard`, and the reply follows. -/
theorem exec_serves {s : State} {h : Hdr} {tag code : Byte} {args : List Byte} (hs : s.Serves h (tag :: code :: args))
    (n : Nat) (hn : argLength code = some n) (hl : args.length = n) (hc : code.toNat = 21 → optionsOf args = none) :
    s.arrive (some (frameTo s h Kind.request (tag :: code :: args)))
      = s.served h tag code args (serve code args (s.heard h)).status (serve code args (s.heard h)).results
          (serve code args (s.heard h)).state := by
  obtain ⟨hh, hi, hp⟩ := hs
  rw [arrive_frameTo hh, handle_request]
  have hr : (s.heard h).request h.src (tag :: code :: args)
      = (State.answer h.src tag code (serve code args (s.heard h)), true) := by
    simp only [State.request, State.serveRequest, heard_mgmt, hi, hp, hn, hl, ne_eq, not_true_eq_false, if_true, if_false]
    split
    · rename_i o h1 h2; simp [hc h1] at h2
    · rfl
  rw [hr]
  simp [State.served, State.answer, State.reply, State.passOn]

/-- A served request whose answer is known. -/
theorem serves_to {s : State} {h : Hdr} {tag code : Byte} {args : List Byte} (hs : s.Serves h (tag :: code :: args))
    (n : Nat) (hn : argLength code = some n) (hl : args.length = n) (hc : code.toNat ≠ 21) (a : Answer)
    (ha : serve code args (s.heard h) = a) :
    s.arrive (some (frameTo s h Kind.request (tag :: code :: args)))
      = s.served h tag code args a.status a.results a.state := by
  rw [exec_serves hs n hn hl (fun e => absurd e hc), ha]

/-! ## Offers -/

/-- R163: an offer changes nothing of the Ring Port but the Inject Queue and the sources. -/
theorem offer_eq (q : OwnFrame) (p : RingPort) :
    p.offer q = { p with queue := (p.offer q).queue, sources := (p.offer q).sources } := by
  unfold RingPort.offer RingPort.setSource; repeat' split
  all_goals rfl

@[simp] theorem offer_transit (q : OwnFrame) (p : RingPort) : (p.offer q).transit = p.transit := by rw [offer_eq]
@[simp] theorem offer_flights (q : OwnFrame) (p : RingPort) : (p.offer q).flights = p.flights := by rw [offer_eq]
@[simp] theorem offer_monitor (q : OwnFrame) (p : RingPort) : (p.offer q).monitor = p.monitor := by rw [offer_eq]
@[simp] theorem offer_nextSeq (q : OwnFrame) (p : RingPort) : (p.offer q).nextSeq = p.nextSeq := by rw [offer_eq]
@[simp] theorem offer_row (q : OwnFrame) (p : RingPort) : (p.offer q).row = p.row := by rw [offer_eq]
@[simp] theorem offer_out (q : OwnFrame) (p : RingPort) : (p.offer q).out = p.out := by rw [offer_eq]
@[simp] theorem offer_lastActivity (q : OwnFrame) (p : RingPort) : (p.offer q).lastActivity = p.lastActivity := by
  rw [offer_eq]

/-- The place of a source among the thirteen is its own. -/
theorem Src.idx_injective : ∀ a b : Src, a.idx = b.idx → a = b := by
  intro a b h
  cases a <;> cases b <;> simp_all [Src.idx, Fin.ext_iff] <;> omega

@[simp] theorem source_setSource_self (p : RingPort) (k : Src) (x : SourceState) : (p.setSource k x).source k = x := by
  simp [RingPort.source, RingPort.setSource]

theorem source_setSource_ne (p : RingPort) {k j : Src} (h : k ≠ j) (x : SourceState) :
    (p.setSource k x).source j = p.source j := by
  have : k.idx.val ≠ j.idx.val := fun e => h (Src.idx_injective _ _ (Fin.ext e))
  simp [RingPort.source, RingPort.setSource, Vector.getElem_set_ne, this]

/-! ## The end of an event (R138, R185) -/

/-- R140: the Route Dispatcher sends nothing while the diverter is offline, or has not been heard from since its role was
given. -/
theorem pumpRoute_unready {s : State} (h : s.diverterReady = false) : s.pumpRoute = s := by
  unfold State.pumpRoute
  split
  · rw [if_neg (by simp [h])]
  · rfl

/-- R138: the Route Dispatcher's turn changes only its own state, the Inject Queue and its source. -/
theorem pumpRoute_eq (s : State) :
    s.pumpRoute = { s with
      dispatch := { s.dispatch with routeD := s.pumpRoute.dispatch.routeD }
      port := { s.port with queue := s.pumpRoute.port.queue, sources := s.pumpRoute.port.sources } } := by
  unfold State.pumpRoute
  split
  · split
    · simp only [State.offer, State.updPort, State.updDispatch]
      rw [offer_eq]
    · rfl
  · rfl

/-- R185: the notice source's turn changes only the Inject Queue and its source. -/
theorem pumpNotice_eq (s : State) :
    s.pumpNotice = { s with
      port := { s.port with queue := s.pumpNotice.port.queue, sources := s.pumpNotice.port.sources } } := by
  unfold State.pumpNotice
  split
  · split
    · simp only [State.offer, State.updPort]
      rw [offer_eq]
    · rfl
  · rfl

/-- The end of an event changes only the Route Dispatcher's state, the Inject Queue and the sources. -/
theorem endEvent_eq (s : State) :
    s.endEvent = { s with
      dispatch := { s.dispatch with routeD := s.endEvent.dispatch.routeD }
      port := { s.port with queue := s.endEvent.port.queue, sources := s.endEvent.port.sources } } := by
  unfold State.endEvent
  rw [pumpNotice_eq, pumpRoute_eq]

end Sys2Proof.Machine
end

