-- ==== Sys2Proof/Laws/Tables.lean ====
section
/-!
SUPPORT. Reading back what an update of the Station Table, the Record Table or a bank wrote; what a record update leaves
alone; and what the operations that look a record up answer when the record is known.
-/

namespace Sys2Proof.Machine

/-! ## Stations -/

@[simp] theorem station_updStation_self (s : State) (i : StationNo) (f : Station → Station) :
    (s.updStation i f).station i = f (s.station i) := by
  simp [State.station, State.updStation]

theorem station_updStation_ne (s : State) {i j : StationNo} (h : i ≠ j) (f : Station → Station) :
    (s.updStation i f).station j = s.station j := by
  have : i.val ≠ j.val := fun e => h (Fin.ext e)
  simp [State.station, State.updStation, Vector.getElem_set_ne, this]

/-- Two updates of one station are one. -/
@[simp] theorem updStation_updStation (s : State) (i : StationNo) (f g : Station → Station) :
    (s.updStation i f).updStation i g = s.updStation i fun st => g (f st) := by
  simp [State.updStation, State.station, Vector.set_set]

/-- An update that leaves the station as it is leaves the state as it is. -/
theorem updStation_self (s : State) (i : StationNo) (f : Station → Station) (h : f (s.station i) = s.station i) :
    s.updStation i f = s := by
  have : s.stations.set i.val (s.station i) i.isLt = s.stations := by simp [State.station]
  simp only [State.updStation, h, this]

/-- Updates of a station that agree on the station as it stands are the same. -/
theorem updStation_congr (s : State) (i : StationNo) {f g : Station → Station} (h : f (s.station i) = g (s.station i)) :
    s.updStation i f = s.updStation i g := by
  simp only [State.updStation, h]

@[simp] theorem station_updRecords (s : State) (f : RecordTable → RecordTable) (i : StationNo) :
    (s.updRecords f).station i = s.station i := rfl
@[simp] theorem station_updDispatch (s : State) (f : DispatchUnit → DispatchUnit) (i : StationNo) :
    (s.updDispatch f).station i = s.station i := rfl
@[simp] theorem station_updBanks (s : State) (f : TypeBanks → TypeBanks) (i : StationNo) :
    (s.updBanks f).station i = s.station i := rfl
@[simp] theorem station_updMgmt (s : State) (f : Management → Management) (i : StationNo) :
    (s.updMgmt f).station i = s.station i := rfl
@[simp] theorem station_updPort (s : State) (f : RingPort → RingPort) (i : StationNo) :
    (s.updPort f).station i = s.station i := rfl
@[simp] theorem station_putRec (s : State) (n : RecNo) (r : Option Record) (i : StationNo) :
    (s.putRec n r).station i = s.station i := rfl
@[simp] theorem station_offer (s : State) (k : Src) (d : Byte) (b : Body) (i : StationNo) :
    (s.offer k d b).station i = s.station i := rfl
@[simp] theorem station_tally (s : State) (t : Tally) (i : StationNo) : (s.tally t).station i = s.station i := rfl

/-! ## Records -/

@[simp] theorem getRec_putRec_self (s : State) (n : RecNo) (r : Option Record) : (s.putRec n r).getRec n = r := by
  simp [State.getRec, State.putRec, State.updRecords]

theorem getRec_putRec_ne (s : State) {n m : RecNo} (h : n ≠ m) (r : Option Record) :
    (s.putRec n r).getRec m = s.getRec m := by
  have : n.val ≠ m.val := fun e => h (Fin.ext e)
  simp [State.getRec, State.putRec, State.updRecords, Vector.getElem_set_ne, this]

/-- Two writes of one number are the later one. -/
@[simp] theorem putRec_putRec (s : State) (n : RecNo) (r q : Option Record) :
    (s.putRec n r).putRec n q = s.putRec n q := by
  simp [State.putRec, State.updRecords, Vector.set_set]

/-- Writing back what a number holds changes nothing. -/
theorem putRec_self (s : State) (n : RecNo) (r : Option Record) (h : s.getRec n = r) : s.putRec n r = s := by
  subst h
  simp only [State.putRec, State.updRecords, State.getRec]
  cases s; simp

@[simp] theorem getRec_updStation (s : State) (i : StationNo) (f : Station → Station) (n : RecNo) :
    (s.updStation i f).getRec n = s.getRec n := rfl
@[simp] theorem getRec_updDispatch (s : State) (f : DispatchUnit → DispatchUnit) (n : RecNo) :
    (s.updDispatch f).getRec n = s.getRec n := rfl
@[simp] theorem getRec_updBanks (s : State) (f : TypeBanks → TypeBanks) (n : RecNo) :
    (s.updBanks f).getRec n = s.getRec n := rfl
@[simp] theorem getRec_updMgmt (s : State) (f : Management → Management) (n : RecNo) :
    (s.updMgmt f).getRec n = s.getRec n := rfl
@[simp] theorem getRec_updPort (s : State) (f : RingPort → RingPort) (n : RecNo) :
    (s.updPort f).getRec n = s.getRec n := rfl
@[simp] theorem getRec_offer (s : State) (k : Src) (d : Byte) (b : Body) (n : RecNo) :
    (s.offer k d b).getRec n = s.getRec n := rfl
@[simp] theorem getRec_tally (s : State) (t : Tally) (n : RecNo) : (s.tally t).getRec n = s.getRec n := rfl

/-- A held record changed in place. -/
theorem modRec_some {s : State} {n : RecNo} {r : Record} (h : s.getRec n = some r) (f : Record → Record) :
    s.modRec n f = s.putRec n (some (f r)) := by
  simp [State.modRec, h]

/-- The type entry of a record depends on its bank and type code alone. -/
theorem typeEntry_congr (s : State) {r q : Record} (hb : q.bank = r.bank) (hc : q.typeCode = r.typeCode) :
    s.typeEntry q = s.typeEntry r := by
  simp [State.typeEntry, hb, hc]

@[simp] theorem typeEntry_updStation (s : State) (i : StationNo) (f : Station → Station) (r : Record) :
    (s.updStation i f).typeEntry r = s.typeEntry r := rfl
@[simp] theorem typeEntry_putRec (s : State) (n : RecNo) (q : Option Record) (r : Record) :
    (s.putRec n q).typeEntry r = s.typeEntry r := rfl

/-! ## The record of a test (R65, R15) -/

theorem testRec_of {s : State} {i : StationNo} {n : RecNo} {r : Record} (h : s.Tests i n r) : s.testRec i = some (n, r) := by
  simp [State.testRec, h.1, h.2]

theorem testEntry_of {s : State} {i : StationNo} {n : RecNo} {r : Record} (h : s.Tests i n r) :
    s.testEntry i = s.typeEntry r := by
  simp [State.testEntry, testRec_of h]

/-- R110: the test result of a test in progress changed in its record. -/
theorem modResult_of {s : State} {i : StationNo} {n : RecNo} {r : Record} (h : s.Tests i n r)
    (f : TestResult → TestResult) : s.modResult i f = s.putRec n (some { r with result := r.result.map f }) := by
  simp [State.modResult, h.1, modRec_some h.2]

/-! ## Lookups (R24) -/

/-- R24: the lookup finds the record that holds a serial. -/
theorem findSerial_of {s : State} {sr : List Byte} {n : RecNo} {r : Record} (h : s.Holds sr n r) :
    s.findSerial sr = some n := by
  obtain ⟨h1, h2, h3⟩ := h
  unfold State.findSerial
  rw [List.find?_eq_some_iff_getElem]
  refine ⟨by simp [h1, h2], n.val, by simp, by simp, ?_⟩
  intro j hj
  have hj' : j < 128 := Nat.lt_trans hj n.isLt
  have e : (List.finRange 128)[j]'(by simpa using hj') = (⟨j, hj'⟩ : Fin 128) := by simp
  rw [e]
  cases hg : s.getRec ⟨j, hj'⟩ with
  | none => rfl
  | some q =>
    have : q.serial ≠ sr := fun e => by
      have := congrArg Fin.val (h3 _ q hg e)
      simp at this; omega
    simp [this]

/-- R24: the lookup of a serial that no record holds finds none. -/
theorem findSerial_none {s : State} {sr : List Byte} (h : s.Lacks sr) : s.findSerial sr = none := by
  unfold State.findSerial
  rw [List.find?_eq_none]
  intro m _
  cases hg : s.getRec m with
  | none => simp
  | some q => simp; exact h m q hg

/-! ## Banks -/

@[simp] theorem banks_get_set_self (t : TypeBanks) (k : BankId) (x : Bank) : (t.set k x).get k = x := by
  cases k <;> rfl

@[simp] theorem banks_get_set_other (t : TypeBanks) (k : BankId) (x : Bank) : (t.set k x).get k.other = t.get k.other := by
  cases k <;> rfl

/-- R11: the bank found ACTIVE is the ACTIVE one. -/
theorem activeId_of {t : TypeBanks} {k : BankId} (h : (t.get k).state = .active) (h' : (t.get k.other).state ≠ .active) :
    t.activeId = k := by
  cases k <;> simp_all [TypeBanks.activeId, TypeBanks.get, BankId.other]

end Sys2Proof.Machine
end

