-- ==== Sys2Proof/Laws/Frames.lean ====
section
/-!
SUPPORT. A frame of a station, of a role or of the supervisor, brought down to the operation its block runs on it: the
provers cite these in place of the chain arrive, classify, handle.
-/

namespace Sys2Proof.Machine

/-! ## A station's frame (R64) -/

/-- R64: the station as the Station Controller finds it. -/
def Station.seen (c : Clock) (st : Station) : Station :=
  if st.state = .outOfService then st else { st with lastFrame := c }

@[simp] theorem seen_state (c : Clock) (st : Station) : (st.seen c).state = st.state := by
  unfold Station.seen; split <;> rfl
@[simp] theorem seen_cfg (c : Clock) (st : Station) : (st.seen c).cfg = st.cfg := by
  unfold Station.seen; split <;> rfl
@[simp] theorem seen_record (c : Clock) (st : Station) : (st.seen c).record = st.record := by
  unfold Station.seen; split <;> rfl
@[simp] theorem seen_step (c : Clock) (st : Station) : (st.seen c).step = st.step := by
  unfold Station.seen; split <;> rfl
@[simp] theorem seen_deadline (c : Clock) (st : Station) : (st.seen c).deadline = st.deadline := by
  unfold Station.seen; split <;> rfl
@[simp] theorem seen_extensionEnd (c : Clock) (st : Station) : (st.seen c).extensionEnd = st.extensionEnd := by
  unfold Station.seen; split <;> rfl
@[simp] theorem seen_window (c : Clock) (st : Station) : (st.seen c).window = st.window := by
  unfold Station.seen; split <;> rfl
@[simp] theorem seen_expected (c : Clock) (st : Station) : (st.seen c).expected = st.expected := by
  unfold Station.seen; split <;> rfl
@[simp] theorem seen_gaps (c : Clock) (st : Station) : (st.seen c).gaps = st.gaps := by
  unfold Station.seen; split <;> rfl
@[simp] theorem seen_pressures (c : Clock) (st : Station) : (st.seen c).pressures = st.pressures := by
  unfold Station.seen; split <;> rfl
@[simp] theorem seen_sealPending (c : Clock) (st : Station) : (st.seen c).sealPending = st.sealPending := by
  unfold Station.seen; split <;> rfl
@[simp] theorem seen_aborted (c : Clock) (st : Station) : (st.seen c).aborted = st.aborted := by
  unfold Station.seen; split <;> rfl
@[simp] theorem seen_leaving (c : Clock) (st : Station) : (st.seen c).leaving = st.leaving := by
  unfold Station.seen; split <;> rfl
theorem seen_lastFrame {c : Clock} {st : Station} (h : st.state ≠ .outOfService) : (st.seen c).lastFrame = c := by
  simp [Station.seen, h]

theorem heardFrom_eq (h : Hdr) (i : StationNo) (s : State) :
    s.heardFrom h i = (s.heard h).updStation i (Station.seen s.clock) := rfl

@[simp] theorem heardFrom_station (h : Hdr) (i : StationNo) (s : State) :
    (s.heardFrom h i).station i = (s.station i).seen s.clock := by
  simp [heardFrom_eq]
@[simp] theorem heardFrom_clock (h : Hdr) (i : StationNo) (s : State) : (s.heardFrom h i).clock = s.clock := by
  simp [heardFrom_eq]
@[simp] theorem heardFrom_getRec (h : Hdr) (i : StationNo) (s : State) (n : RecNo) :
    (s.heardFrom h i).getRec n = s.getRec n := by simp [heardFrom_eq]
@[simp] theorem heardFrom_records (h : Hdr) (i : StationNo) (s : State) : (s.heardFrom h i).records = s.records := by
  simp [heardFrom_eq]
@[simp] theorem heardFrom_banks (h : Hdr) (i : StationNo) (s : State) : (s.heardFrom h i).banks = s.banks := by
  simp [heardFrom_eq]
@[simp] theorem heardFrom_typeEntry (h : Hdr) (i : StationNo) (s : State) (r : Record) :
    (s.heardFrom h i).typeEntry r = s.typeEntry r := by simp [heardFrom_eq]
@[simp] theorem heardFrom_findSerial (h : Hdr) (i : StationNo) (s : State) (x : List Byte) :
    (s.heardFrom h i).findSerial x = s.findSerial x := by
  simp [State.findSerial]
@[simp] theorem heardFrom_mgmt (h : Hdr) (i : StationNo) (s : State) :
    (s.heardFrom h i).mgmt = { s.mgmt with tallies := s.mgmt.tallies.add 1 .received } := by simp [heardFrom_eq]

/-- R64, R194: a heard STATION EVENT of a station is handled in the state `heardFrom`, taken, and goes on. -/
theorem arrive_stationEvent {s : State} {h : Hdr} {i : StationNo} {p : List Byte} (hs : s.HearsStation h p i) :
    s.arrive (some (frameTo s h Kind.stationEvent p)) = State.passOn (frameTo s h Kind.stationEvent p) true
      (match stationEvent p with
        | some (.seated field) => (s.heardFrom h i).seatedEvent i field
        | some .sealFault => (s.heardFrom h i).sealFaultEvent i
        | some (.reached k) => (s.heardFrom h i).reachedEvent i k
        | some .vented => (s.heardFrom h i).ventedEvent i
        | some .released => (s.heardFrom h i).releasedEvent i
        | some .burst => (s.heardFrom h i).burstEvent i
        | none => (s.heardFrom h i).ignored) := by
  rw [arrive_frameTo hs.1, handle_station (i := i) _ (by decide) _ (by simpa using hs.2)]
  have hk : (frameTo s h Kind.stationEvent p).kindOf = Kind.stationEvent := by simp [frameTo]
  have hp : (frameTo s h Kind.stationEvent p).payload = p := rfl
  have h1 : (if (s.station i).state = .outOfService then s.heard h
      else (s.heard h).updStation i fun st => { st with lastFrame := s.clock }) = s.heardFrom h i := by
    rw [heardFrom_eq]
    split
    · rename_i e; rw [updStation_self]; simp [Station.seen, e]
    · rename_i e; apply updStation_congr; simp [Station.seen, e]
  simp only [State.stationFrame, hk, hp, heard_station, heard_clock, h1]
  rfl

/-- R64, R194: a heard SAMPLE of a station. -/
theorem arrive_sample {s : State} {h : Hdr} {i : StationNo} {p : List Byte} (hs : s.HearsStation h p i) :
    s.arrive (some (frameTo s h Kind.sample p)) = State.passOn (frameTo s h Kind.sample p) true
      (match sampleFields p with
        | some x => (s.heardFrom h i).sampleEvent i x
        | none => (s.heardFrom h i).ignored) := by
  rw [arrive_frameTo hs.1, handle_station (i := i) _ (by decide) _ (by simpa using hs.2)]
  have hk : (frameTo s h Kind.sample p).kindOf = Kind.sample := by simp [frameTo]
  have hp : (frameTo s h Kind.sample p).payload = p := rfl
  have h1 : (if (s.station i).state = .outOfService then s.heard h
      else (s.heard h).updStation i fun st => { st with lastFrame := s.clock }) = s.heardFrom h i := by
    rw [heardFrom_eq]
    split
    · rename_i e; rw [updStation_self]; simp [Station.seen, e]
    · rename_i e; apply updStation_congr; simp [Station.seen, e]
  simp only [State.stationFrame, hk, hp, heard_station, heard_clock, h1]
  rfl

/-! ## A role's frame (R161) -/

/-- R32, R161: a heard TAG of an intake reader. -/
theorem arrive_intake {s : State} {h : Hdr} {p : List Byte} (hs : s.HearsRole h p .intakeReader) :
    s.arrive (some (frameTo s h Kind.tag p))
      = State.passOn (frameTo s h Kind.tag p) ((s.heard h).intake p).2 ((s.heard h).intake p).1 := by
  rw [arrive_frameTo hs.1, handle_role _ (by decide) _ (by simpa using hs.2.1)]
  have hk : (frameTo s h Kind.tag p).kindOf = Kind.tag := by simp [frameTo]
  have hp : (frameTo s h Kind.tag p).payload = p := rfl
  simp [State.roleFrame, State.tagFrame, hk, hp, hs.2.2]

/-- R51, R161: a heard FINDING of an inspection unit. -/
theorem arrive_finding {s : State} {h : Hdr} {p : List Byte} (hs : s.HearsRole h p .inspection) :
    s.arrive (some (frameTo s h Kind.finding p))
      = State.passOn (frameTo s h Kind.finding p) ((s.heard h).findingFrame p).2 ((s.heard h).findingFrame p).1 := by
  rw [arrive_frameTo hs.1, handle_role _ (by decide) _ (by simpa using hs.2.1)]
  have hk : (frameTo s h Kind.finding p).kindOf = Kind.finding := by simp [frameTo]
  have hp : (frameTo s h Kind.finding p).payload = p := rfl
  have hne : ¬ Kind.finding = Kind.tag := by decide
  simp [State.roleFrame, hk, hp, hs.2.2, hne]

/-- R144, R161: a heard TAG of an actuator. -/
theorem arrive_arrival {s : State} {h : Hdr} {p : List Byte} (a : Actuator) (hs : s.HearsRole h p a.role) :
    s.arrive (some (frameTo s h Kind.tag p))
      = State.passOn (frameTo s h Kind.tag p) ((s.heard h).arrival a h.src p).2 ((s.heard h).arrival a h.src p).1 := by
  rw [arrive_frameTo hs.1, handle_role _ (by decide) _ (by simpa using hs.2.1)]
  have hk : (frameTo s h Kind.tag p).kindOf = Kind.tag := by simp [frameTo]
  have hp : (frameTo s h Kind.tag p).payload = p := rfl
  have hq : (frameTo s h Kind.tag p).src = h.src := rfl
  cases a <;> simp [State.roleFrame, State.tagFrame, hk, hp, hq, hs.2.2, Actuator.role]

/-- R150, R161: a heard DONE of an actuator. -/
theorem arrive_done {s : State} {h : Hdr} {p : List Byte} (a : Actuator) (hs : s.HearsRole h p a.role) :
    s.arrive (some (frameTo s h Kind.done p))
      = State.passOn (frameTo s h Kind.done p) true ((s.heard h).doneFrame a p) := by
  rw [arrive_frameTo hs.1, handle_role _ (by decide) _ (by simpa using hs.2.1)]
  have hk : (frameTo s h Kind.done p).kindOf = Kind.done := by simp [frameTo]
  have hp : (frameTo s h Kind.done p).payload = p := rfl
  have h1 : ¬ Kind.done = Kind.tag := by decide
  have h2 : ¬ Kind.done = Kind.finding := by decide
  cases a <;> simp [State.roleFrame, State.doneByRole, hk, hp, hs.2.2, h1, h2, Actuator.role]

end Sys2Proof.Machine
end

