-- ==== Sys2Proof/Laws/Payloads.lean ====
section
/-!
SUPPORT. The layouts of chapter 10 read back: a number, a serial field, a tag, a finding, a sample and a table entry written
as the manual lays them out are read as the fields they were written from (R191, R194, R197).
-/

namespace Sys2Proof.Machine

/-! ## Numbers (R191) -/

theorem beBytes_one (n : Nat) : beBytes 1 n = [byteOf n] := by simp [beBytes]
theorem beBytes_two (n : Nat) : beBytes 2 n = [byteOf (n / 256), byteOf n] := by simp [beBytes]

theorem num16_roundtrip (n : Nat) (h : n < 65536) : (byteOf (n / 256)).toNat * 256 + (byteOf n).toNat = n := by
  rw [byteOf_toNat (n / 256) (by omega)]
  simp [byteOf]; omega

theorem word16_roundtrip (w : Word16) :
    BitVec.ofNat 16 ((byteOf (w.toNat / 256)).toNat * 256 + (byteOf w.toNat).toNat) = w := by
  rw [num16_roundtrip _ w.isLt]; simp

theorem byteAt_append_right (u v : List Byte) (i : Nat) (h : u.length ≤ i) : byteAt (u ++ v) i = byteAt v (i - u.length) := by
  simp [byteAt, List.getElem?_append_right h]

theorem byteAt_cons_zero (b : Byte) (v : List Byte) : byteAt (b :: v) 0 = b := rfl
theorem byteAt_cons_succ (b : Byte) (v : List Byte) (i : Nat) : byteAt (b :: v) (i + 1) = byteAt v i := rfl

/-! ## Serials (R191) -/

theorem serialField_length {sr : List Byte} (h : goodSerial sr) : (serialField sr).length = 17 := by
  simp [serialField]; have := h.2.1; omega

theorem serialCut_serialField {sr : List Byte} (h : goodSerial sr) : serialCut (serialField sr) = sr := by
  obtain ⟨h1, h2, h3⟩ := h
  simp only [serialCut, serialField, byteAt_cons_zero]
  rw [byteOf_toNat _ (by omega)]
  simp [h2]

/-- R191: a serial sent as a field is read back. -/
theorem serialOf_serialField {sr : List Byte} (h : goodSerial sr) : serialOf (serialField sr) = some sr := by
  have hc := serialCut_serialField h
  obtain ⟨h1, h2, h3⟩ := h
  have h0 : (byteAt (serialField sr) 0).toNat = sr.length := by
    simp only [serialField, byteAt_cons_zero]; exact byteOf_toNat _ (by omega)
  simp only [serialOf, h0, hc]
  rw [if_pos ⟨h1, h2, h3⟩]

theorem echoField_serialField {sr : List Byte} (h : goodSerial sr) : echoField (serialField sr) = serialField sr := by
  simp [echoField, serialOf_serialField h]

/-- R191: a field that reads as a serial reads as a well-formed one. -/
theorem serialOf_good {field sr : List Byte} (h : serialOf field = some sr) (hl : field.length = 17) : goodSerial sr := by
  simp only [serialOf] at h
  split at h
  · rename_i hc
    simp only [Option.some.injEq] at h
    subst h
    constructor
    · simp [serialCut]; omega
    · exact ⟨by simp [serialCut], hc.2.2⟩
  · cases h

/-! ## The line's payloads (R194) -/

theorem tagPayload_length {field : List Byte} (h : field.length = 17) (maker model : Word16) (year tare : Nat) :
    (tagPayload field maker model year tare).length = 25 := by
  simp [tagPayload, beBytes_two, h]

/-- R194: a TAG read back. -/
theorem tagFields_tagPayload {field : List Byte} (h : field.length = 17) (maker model : Word16) {year tare : Nat}
    (hy : year < 65536) (ht : tare < 65536) :
    tagFields (tagPayload field maker model year tare) = some ⟨field, maker, model, year, tareOf tare⟩ := by
  have e : tagPayload field maker model year tare = field ++ [byteOf (maker.toNat / 256), byteOf maker.toNat,
      byteOf (model.toNat / 256), byteOf model.toNat, byteOf (year / 256), byteOf year, byteOf (tare / 256), byteOf tare] := by
    simp [tagPayload, beBytes_two]
  have hb : ∀ (v : List Byte) i, byteAt (field ++ v) (17 + i) = byteAt v i := by
    intro v i; rw [byteAt_append_right _ _ _ (by omega), h]; congr 1; omega
  unfold tagFields
  rw [if_pos (tagPayload_length h ..), e]
  have hn := fun v i => hb v i
  simp only [word16At, num16At]
  rw [hn _ 0, hn _ 1, hn _ 2, hn _ 3, hn _ 4, hn _ 5, hn _ 6, hn _ 7]
  simp only [byteAt, List.getD_cons_zero, List.getD_cons_succ, num16_roundtrip _ hy, num16_roundtrip _ ht, word16_roundtrip]
  rw [List.take_append_of_le_length (by omega), List.take_of_length_le (by omega)]

theorem findingPayload_length {field : List Byte} (h : field.length = 17) (items : BitVec 8) (sets clears : Word16)
    (tare : Nat) : (findingPayload field items sets clears tare).length = 24 := by
  simp [findingPayload, beBytes_two, h]

/-- R194: a FINDING read back. -/
theorem findingFields_findingPayload {field : List Byte} (h : field.length = 17) (items : BitVec 8) (sets clears : Word16)
    {tare : Nat} (ht : tare < 65536) :
    findingFields (findingPayload field items sets clears tare) = some ⟨field, items, sets, clears, tareOf tare⟩ := by
  have e : findingPayload field items sets clears tare = field ++ [items, byteOf (sets.toNat / 256), byteOf sets.toNat,
      byteOf (clears.toNat / 256), byteOf clears.toNat, byteOf (tare / 256), byteOf tare] := by
    simp [findingPayload, beBytes_two]
  have hn : ∀ (v : List Byte) i, byteAt (field ++ v) (17 + i) = byteAt v i := by
    intro v i; rw [byteAt_append_right _ _ _ (by omega), h]; congr 1; omega
  unfold findingFields
  rw [if_pos (findingPayload_length h ..), e]
  simp only [word16At, num16At]
  rw [hn _ 0, hn _ 1, hn _ 2, hn _ 3, hn _ 4, hn _ 5, hn _ 6]
  simp only [byteAt, List.getD_cons_zero, List.getD_cons_succ, num16_roundtrip _ ht, word16_roundtrip]
  rw [List.take_append_of_le_length (by omega), List.take_of_length_le (by omega)]

/-- R194: a SAMPLE read back. -/
theorem sampleFields_samplePayload (seq : Byte) {pr lv tp : Nat} (hp : pr < 65536) (hl : lv < 65536) (ht : tp < 65536) :
    sampleFields (samplePayload seq pr lv tp) = some ⟨seq, pr, lv, tp⟩ := by
  simp [sampleFields, samplePayload, beBytes_two, num16At, byteAt, num16_roundtrip _ hp, num16_roundtrip _ hl,
    num16_roundtrip _ ht]

/-! ## Requests' arguments (R197) -/

@[simp] theorem bankOf_code (k : BankId) : bankOf k.code = some k := by cases k <;> rfl

theorem indexOf_byteOf {n : Nat} (i : Fin n) (hn : n ≤ 256) : indexOf n (byteOf i) = some i := by
  have : (byteOf i).toNat = i.val := byteOf_toNat _ (by omega)
  simp [indexOf, this]

theorem unitIndex_byteOf (i : Fin 62) : unitIndex (byteOf (i.val + 1)) = some i := by
  have : (byteOf (i.val + 1)).toNat = i.val + 1 := byteOf_toNat _ (by omega)
  unfold unitIndex
  rw [dif_pos (by omega)]
  simp [this]

@[simp] theorem roleOfCode_code (r : Role) : roleOfCode r.code = some r := by cases r <;> rfl

/-- R197: a type entry written by READ TYPE ENTRY's layout is read back by WRITE TYPE ENTRY's. -/
theorem typeEntryAt_bytes (a b : Byte) {o : TypeEntry} (h : o.Fits) : typeEntryAt (a :: b :: o.bytes) 2 = o := by
  obtain ⟨h1, h2, h3, h4, h5, h6, h7, h8, h9, h10, h11, h12, h13, h14, h15, h16⟩ := h
  have hv : validMark (flagByte o.valid) = o.valid := by cases o.valid <;> rfl
  simp only [TypeEntry.bytes, beBytes_two, typeEntryAt, num16At, word16At, byteAt, List.cons_append, List.nil_append,
    List.getD_cons_zero, List.getD_cons_succ, num16_roundtrip _ h1, num16_roundtrip _ h2,
    num16_roundtrip _ h3, num16_roundtrip _ h8, num16_roundtrip _ h13, word16_roundtrip, byteOf_toNat _ h4,
    byteOf_toNat _ h5, byteOf_toNat _ h6, byteOf_toNat _ h7, byteOf_toNat _ h9, byteOf_toNat _ h10, byteOf_toNat _ h11,
    byteOf_toNat _ h12, byteOf_toNat _ h14, byteOf_toNat _ h15, byteOf_toNat _ h16, hv]

end Sys2Proof.Machine
end

