-- ==== Sys2Proof/Tests/Slice0.lean ====
section
/-!
SUPPORT. Tests of the model: the checks of WellFormed, the manual's worked examples, and for every statement with
hypotheses a `witness_` theorem that shows them met, clause by clause, on a small state and at the ends of their ranges.
Every expected value is the manual's own, from the example or rule its comment names.
-/

namespace Sys2Proof.Tests

open Sys2Proof.Machine

/-! ## The small states -/

/-- The header of a frame from the supervisor, address 62. -/
def sup : Hdr := ⟨62, 0, false, 0⟩

/-- The header of a frame from another unit. -/
def unit (a : Byte) : Hdr := ⟨a, 255, true, 7⟩

/-- A type entry, with the values of the example of R8 as stored and of the test of chapter 5. -/
def gauge : TypeEntry :=
  ⟨true, 25000, 1250, 3800, 100, 4, 20, 30, 60, 4, 3, 10, 30, 120, 2, 50, 30, 0x9D, 0x40, 0x08⟩

/-- Station 7, at address 27, in a state. -/
def stationIn (st : StState) : Station := { Station.blank with cfg := ⟨27, 320, 500, 5⟩, state := st, lastFrame := 0 }

/-- A line at work: the ring UP, roles at addresses 10 to 14, station 7 in a state, type code 63 matched by entry 63 of
bank A, the Calendar at May 2031, the diverter heard from. -/
def line (st : StState) : State :=
  { State.reset with
    port := { RingPort.blank with monitor := .up }
    dispatch := { DispatchUnit.blank with diverterHeard := true }
    roles := ((((State.reset.roles.set 9 .intakeReader).set 10 .inspection).set 11 .markingPress).set 12 .scrapCell).set
      13 .diverter
    banks := ⟨{ Bank.blank .active with
      typeTable := (Bank.blank .active).typeTable.set 63 gauge
      matchTable := (Bank.blank .active).matchTable.set 63 ⟨true, 0x310, 0xFFFF, 0, 0, 63⟩ }, Bank.blank .standby⟩
    stations := State.reset.stations.set 7 (stationIn st)
    mgmt := { State.reset.mgmt with calendar := some ⟨5, 2031⟩ } }

/-- The line with station 7 in VACANT. -/
def calm : State := line .vacant

/-- A record of serial "A" in a state, type code 63. -/
def cyl (st : RecState) : Record :=
  ⟨[0x41], st, none, 0x310, 0x47, 2012, some 1450, some 63, none, 1, 0, 0, none, .notDone, 0, 1, none, none, none, none,
    0, 0⟩

/-- The same record ON TEST, as it was seated from INSPECTED. -/
def tested : Record := { cyl .onTest with seatedFrom := some .inspected, bank := some ⟨.a, 0⟩ }

/-- The line with a record in number 127. -/
def holding (r : Record) : State := calm.putRec 127 (some r)

/-- A test of a record, number 127, in progress at station 7. -/
def underTest (st : StState) (r : Record) : State :=
  ((line st).putRec 127 (some r)).updStation 7 fun x => { x with record := some 127 }

/-- A test of the record `tested` in progress at station 7. -/
def testing (st : StState) : State := underTest st tested

/-- The state with its Ring Port changed. -/
def ported (f : RingPort → RingPort) (s : State) : State := s.updPort f

/-- A STEP order of station 7, the frame in flight that it is, and a REPLY. -/
def stepFrame : OwnFrame := ⟨.station 7, 27, .order (.step 1 6250), false⟩
def stepFlight : Flight := ⟨255, stepFrame, 100⟩
def replyFrame : OwnFrame := ⟨.reply, 62, .reply ⟨0, 7, .done, []⟩, false⟩

/-- A frame on its way between two other units. -/
def passing : Frame := composeFrame 2 33 1 0 [7]

theorem getRec_line (st : StState) (n : RecNo) : (line st).getRec n = none := by
  simp [line, State.reset, State.powerOn, State.getRec]

/-- The one record of the state `holding r` holds its serial. -/
theorem holds_holding (r : Record) : (holding r).Holds r.serial 127 r := by
  refine ⟨getRec_putRec_self .., rfl, fun m q h _ => ?_⟩
  by_contra hm
  rw [holding, getRec_putRec_ne _ (Ne.symm hm), calm, getRec_line] at h
  exact nomatch h

/-- A line without records lacks every serial. -/
theorem lacks_line (st : StState) (sr : List Byte) : (line st).Lacks sr := fun m _ h => by
  rw [getRec_line] at h; exact nomatch h

/-! ## Well-formedness (R192) and the table's words -/

theorem test_wf_sources : (Instr.finding (unit 1) []).wf = true ∧ (Instr.finding (unit 62) []).wf = true
    ∧ (Instr.finding (unit 0) []).wf = false ∧ (Instr.readTallies (unit 63) 0 1).wf = false := by decide

theorem test_wf_payloads : (Instr.transitFrame 2 (unit 33) 1 (List.replicate 48 0)).wf = true
    ∧ (Instr.transitFrame 2 (unit 33) 1 (List.replicate 49 0)).wf = false
    ∧ (Instr.seated (unit 27) (List.replicate 47 0)).wf = true ∧ (Instr.seated (unit 27) (List.replicate 48 0)).wf = false
    ∧ (Instr.lineReset sup 0 (List.replicate 46 0)).wf = true ∧ (Instr.lineReset sup 0 (List.replicate 47 0)).wf = false
    ∧ (Instr.ownFrameReturn 62 10 0 true (List.replicate 49 0)).wf = false := by decide

theorem test_wf_bytes : (Instr.checkFailure (List.replicate 7 0)).wf = true
    ∧ (Instr.checkFailure (List.replicate 55 0)).wf = true ∧ (Instr.checkFailure (List.replicate 6 0)).wf = false
    ∧ (Instr.checkFailure (List.replicate 56 0)).wf = false := by decide

/-- No row of the table gives bits. -/
theorem test_no_word_spells_a_command : decodeTableWord 16 0xFFFF = none ∧ calm.withFetchWord 16 0 = calm :=
  ⟨rfl, rfl⟩

/-! ## The manual's examples -/

/-- R193's remainder over the digits 1 to 9: the check value published for this divisor and start (not the manual's). -/
theorem test_crc_of_digits : crc [0x31, 0x32, 0x33, 0x34, 0x35, 0x36, 0x37, 0x38, 0x39] = 0x29B1 := by decide +kernel

/-- Chapter 6, CORRECTIONS AND THEIR ROUNDING. -/
theorem test_corrections : [(300, 7), (300, -5), (128, 3), (128, -3), (64, 2), (64, -2), (1, 127), (1, 128), (320, 20),
      (4095, 9999), (4095, -9999), (0, 9999)].map (fun x : Nat × Int => correction x.1 x.2)
    = [8, -6, 2, -2, 1, -1, 0, 1, 25, 159945, -159945, 0] := by decide

/-- Chapter 6, THE TEST OF CHAPTER 5. -/
theorem test_expansion : expansionOf 320 ⟨1200, 1850⟩ ⟨4650, 1870⟩ ⟨1520, 1862⟩
    = ⟨3425, ⟨false, false⟩, some ⟨305, 3120, 89⟩⟩ := by decide

/-- Chapter 6, AT THE LIMITS: cases F, H and I. -/
theorem test_expansion_limits : expansionOf 256 ⟨1000, 2000⟩ ⟨1040, 2050⟩ ⟨0, 0⟩ = ⟨-10, ⟨false, false⟩, none⟩
    ∧ expansionOf 256 ⟨1000, 2000⟩ ⟨4010, 2010⟩ ⟨995, 2003⟩ = ⟨3000, ⟨true, false⟩, some ⟨0, 3000, 0⟩⟩
    ∧ expansionOf 256 ⟨1000, 2000⟩ ⟨1160, 2010⟩ ⟨1172, 2002⟩ = ⟨150, ⟨false, true⟩, some ⟨150, 0, 1000⟩⟩ := by decide

/-- Chapter 6, ONE MEASUREMENT, EIGHT RECORDS: rows 1, 3, 4, 5, 6 and 8. -/
theorem test_verdict_rows :
    let x : Expansion := ⟨3425, ⟨false, false⟩, some ⟨305, 3120, 89⟩⟩
    let judge (findings : Word16) (w : WeightCheck) (x : Expansion) :=
      verdictOrder gauge { tested with findings := findings, weight := w } (.captured x)
    judge 0 .ok x = .pass ∧ judge 0x08 .loss x = .hold .finding ∧ judge 0 .loss x = .condemn .weightLoss
      ∧ judge 0x48 .ok x = .condemn .finding ∧ judge 0 .noTagTare x = .hold .finding
      ∧ judge 0x08 .ok { x with et := 3900 } = .condemn .elastic := by decide

/-- Chapter 3, WEIGHT CHECKS: every row. -/
theorem test_weight_checks : weightCheck (some 1450) 1391 50 = .ok ∧ weightCheck (some 2000) 1890 50 = .loss
    ∧ weightCheck (some 1000) 950 50 = .ok ∧ weightCheck (some 1000) 949 50 = .loss
    ∧ weightCheck (some 1450) 1500 50 = .ok ∧ weightCheck (some 2000) 1890 0 = .ok
    ∧ weightCheck (some 3) 1 200 = .loss ∧ weightCheck none 1391 50 = .noTagTare := by decide

/-- Chapter 3, CLEAR BEFORE SET: F0 and F3, clear F3 and F7, set F7 and F9. -/
theorem test_clear_before_set :
    (applyFinding ⟨[], 0, 0x280, 0x88, none⟩ 50 { tested with findings := 0x09 }).findings = 0x281 := by decide

/-- Chapter 1, RESOLVING FOUR TAGS. -/
theorem test_resolution :
    let b : Bank := { Bank.blank .active with
      typeTable := ((Bank.blank .active).typeTable.set 12 gauge).set 13 gauge
      matchTable := (((Bank.blank .active).matchTable.set 0 ⟨true, 0x310, 0xFFFF, 0x40, 0xFFF0, 12⟩).set 1
        ⟨true, 0x310, 0xFFFF, 0, 0, 13⟩).set 3 ⟨true, 0x500, 0xFF00, 0, 0, 20⟩ }
    [(0x310, 0x47), (0x310, 0x52), (0x5A1, 0x1234), (0x600, 1)].map (fun x : Word16 × Word16 => b.resolve x.1 x.2)
      = [some 12, some 13, none, none] := by decide

/-- R95: the targets for 25000 in 3 steps and the ends of 1000 in 16. -/
theorem test_step_targets : [1, 2, 3].map (stepTarget 25000 3) = [8333, 16666, 25000]
    ∧ [1, 2, 15, 16].map (stepTarget 1000 16) = [62, 125, 937, 1000] ∧ stepTarget 60000 1 1 = 60000 := by decide

/-- R88: 17 with none expected; 20 and 19 with 19 and 21 expected (SEQUENCE NUMBERS AND GAPS); past 255. -/
theorem test_sequence : missedBefore none 17 = some 0 ∧ missedBefore (some 19) 20 = some 1
    ∧ missedBefore (some 21) 19 = none ∧ missedBefore (some 255) 1 = some 2 := by decide

/-- R102, AN EXTENDED HOLD: the levels at 185,200 are not stable and those at 186,200 are. -/
theorem test_stability :
    let e := { gauge with window := 5, stabBand := 4 }
    let w (l : List Nat) := l.map fun x => (⟨25010, x, 1870⟩ : Sample)
    stable e (w [4641, 4644, 4646, 4647, 4649]) = false ∧ stable e (w [4646, 4647, 4649, 4650, 4650]) = true
      ∧ nextCheck 185200 500 188200 = 185700 := by decide

/-- R67: a deadline is reached at its value and past the clock's wrap, and not before. -/
theorem test_deadlines : reached 100 100 = true ∧ reached 99 100 = false ∧ reached 5 4294967290 = true
    ∧ reached 4294967290 5 = false := by decide

/-- R24, R191: the ends of a serial's length, and a character outside the set. -/
theorem test_serials : serialOf (serialField [0x41]) = some [0x41]
    ∧ serialOf (serialField (List.replicate 16 0x5A)) = some (List.replicate 16 0x5A)
    ∧ serialOf (List.replicate 17 0) = none ∧ serialOf (17 :: List.replicate 16 0x41) = none
    ∧ serialOf (serialField [0x61]) = none := by decide

/-- R8, A WRITE WITH CLAMPED FIELDS: the band, the steps, the hold time and the stability band are clamped and named. -/
theorem test_clamped_write :
    let o := { gauge with band := 3000, steps := 20, holdTime := 5, stabBand := 0 }
    o.clamped = { gauge with band := 2500, steps := 16, holdTime := 10, stabBand := 1 }
      ∧ clampIndication o o.clamped = 2 ^ 0 + 2 ^ 2 + 2 ^ 5 + 2 ^ 6 := by decide

/-- R165, SHARING THE OUT PAIR: with the count at 4, the fifth choice sends A and the count is 0. -/
theorem test_arbiter :
    let p : RingPort := { calm.port with transit := [.stored passing], queue := [stepFrame, replyFrame], row := 4 }
    (p.arbitrate 1).out = .own stepFrame (composeFrame 27 1 8 0 [2, 1, 0x18, 0x6A]) false
      ∧ (p.arbitrate 1).row = 0 ∧ (p.arbitrate 1).queue = [replyFrame] := by decide +kernel

/-- R145, PASSED-BY COUNTS AT THE PRESS: the arrival of record 11 leaves 3 and 15 listed and 8 LOST. -/
theorem test_passed_by :
    let r (n count : Nat) : Option Record :=
      some { cyl .markPending with serial := [0x41, byteOf (0x41 + n)], passedBy := count, verdict := some .pass }
    let s := ((((calm.putRec 3 (r 3 6)).putRec 8 (r 8 7)).putRec 11 (r 11 0)).putRec 15 (r 15 2)).setList .press
      [3, 8, 11, 15]
    let t := s.arrivalOf .press 12 (serialField [0x41, 0x4C]) [0x41, 0x4C]
    t.dispatch.markList = [3, 15] ∧ t.stateOf 8 = some .lost ∧ t.stateOf 11 = some .atPress
      ∧ (t.getRec 3).map (·.passedBy) = some 7 ∧ t.records.closed = [8] := by decide +kernel

/-- R36 to R38, SIX INTAKE READS: made 2001 with life 30 is CONDEMN LIFE, 2002 is IDENTIFIED, 2032 is HOLD TAG DATE, an
unknown maker HOLD UNKNOWN TYPE. -/
theorem test_intake_checks :
    let typed (maker : Word16) (year : Nat) := (calm.typeRec 127 { cyl .hold with maker := maker, year := year }).getRec 127
    (typed 0x310 2001).bind (·.verdict) = some (.condemn .life)
      ∧ (typed 0x310 2002).map (·.state) = some .identified
      ∧ (typed 0x310 2032).bind (·.verdict) = some (.hold .tagDate)
      ∧ (typed 0x311 2001).bind (·.verdict) = some (.hold .unknownType) := by decide

/-- Chapter 5, ONE TEST FROM SEAT TO RELEASE: the hold deadline 60 s after step 4 is reached, the vent deadline 30 s after the
hold, and the settle deadline 120 s after VENTED. -/
theorem test_phase_deadlines :
    let at_ (st : StState) (c : Clock) : State := { testing st with clock := c }
    (((at_ .ramping 125200).updStation 7 fun x => { x with step := 4 }).reachedEvent 7 4 |>.station 7).deadline
        = some 185200
      ∧ (((at_ .holding 185200).captureHold 7).station 7).deadline = some 215200
      ∧ (((at_ .venting 193000).ventedEvent 7).station 7).deadline = some 313000
      ∧ (((at_ .settling 313000).releaseWith 7 .release).station 7).deadline = some 373000 := by decide

/-! ## One step of a command -/

/-- The 17 bytes of a serial field for the serial of one character, the bytes beyond its length, which are not read, 0xFF. -/
def fieldOf (c : Byte) : List Byte := 1 :: c :: List.replicate 15 0xFF

/-- A TAG of serial "A" that type entry 63 answers. -/
def tag (year : Nat) : List Byte := tagPayload (fieldOf 0x41) 0x310 0x47 year 1450

/-- The state after a command, the state itself where the command stopped. -/
def after (c : Instr) (s : State) : State :=
  match exec c s with
  | .next t => t
  | _ => s

/-- R160, R193: a frame for unit 2 is stored with every byte as it was, the taken mark and the spare bits too. -/
theorem test_transit_frame : (after (.transitFrame 2 (unit 33) 1 [7]) calm).port.transit
    = [.stored (composeFrame 2 33 0xF1 255 [7])] := by decide +kernel

/-- R161, R192: a frame of no owner is taken, its mark set in the stored frame alone, and counted. -/
theorem test_ignored_frame : (after (.ignoredFrame ⟨33, 255, false, 7⟩ 1 [7]) calm).port.transit
      = [.stored { composeFrame 1 33 0x71 255 [7] with kind := 0xF1 }]
    ∧ (after (.ignoredFrame ⟨33, 255, false, 7⟩ 1 [7]) calm).mgmt.tallies.ignored = 1 := by decide +kernel

/-- R38, R138: an intake read opens record 0 in IDENTIFIED, and its ROUTE TEST goes to the diverter at once. -/
theorem test_intake_read : (after (.intakeRead (unit 10) (tag 2012)) calm).stateOf 0 = some .identified
    ∧ (after (.intakeRead (unit 10) (tag 2012)) calm).port.queue
      = [⟨.route, 14, .order (.route [0x41] .test), false⟩]
    ∧ (after (.intakeRead (unit 10) (tag 2012)) calm).banks.a.refs = 1 := by decide +kernel

/-- R140: a waiting lane order is not sent when the DIVERTER role is given, and is at the first frame from its holder. -/
theorem test_role_given_to_the_diverter :
    let waiting : State := { calm with
      roles := calm.roles.set 13 .unassigned
      dispatch := { calm.dispatch with routes := [⟨[0x41], .test, none⟩] } }
    let given := after (.writeUnitRole sup 0 [14, 5]) waiting
    given.roles[13] = .diverter ∧ given.dispatch.routeD = .idle
      ∧ (after (.transitFrame 2 (unit 14) 1 []) given).dispatch.routeD = .sending := by decide +kernel

/-- R76: RELEASED in RESYNC makes the station VACANT. -/
theorem test_released : ((after (.released (unit 27) []) (line .resync)).station 7).state = .vacant := by decide +kernel

/-! ## The witnesses: the machine -/

theorem witness_StepRunsTheFrontCommand :
    ({ calm with pending := [.idleFill, .ringLoss] } : State).pending = .idleFill :: [.ringLoss] ∧ calm.pending = [] :=
  ⟨rfl, rfl⟩

/-- Every collection that the bounds name at its capacity, but for the FIFO of notices. -/
def brimful : State :=
  { calm with
    port := { calm.port with transit := List.replicate 4 .arriving, row := 4 }
    dispatch := { calm.dispatch with routes := List.replicate 4 ⟨[0x41], .hold, none⟩ }
    mgmt := { calm.mgmt with
      notices := List.replicate 8 (.lost 0 [0x41] none .mark)
      tallies := ⟨4294967295, 0, 0, 0, 0, 0, 0, 0, 0, 0, 0, 0, 0, 4294967295⟩ }
    pending := [.transitOverrun] }

theorem witness_EveryStepKeepsTheBounds : brimful.WithinBounds ∧ brimful.PortLaw ∧ ∃ t, step brimful = .next t := by
  refine ⟨by decide, fun k => ?_, _, rfl⟩
  have free (k : Src) : (brimful.port.source k).cond = .free ∧ (brimful.port.source k).slot = none := by
    rcases k with i | _ | _ | _ | _ | _
    · revert i; decide
    all_goals decide
  rw [RingPort.lawOf, (free k).1]
  exact ⟨⟨rfl, rfl, (free k).2⟩, fun q h => nomatch (free k).2.symm.trans h⟩

/-- A test in progress whose station's SEAL FAULT is the command that waits. -/
def running : State :=
  { testing .holding with
    banks := { calm.banks with a := { calm.banks.a with refs := 1 } }, pending := [.sealFault (unit 27) []] }

theorem getRec_underTest (st : StState) (r : Record) (n : RecNo) :
    (underTest st r).getRec n = if n = 127 then some r else none := by
  by_cases h : n = 127
  · subst h; exact getRec_putRec_self ..
  · rw [if_neg h]
    exact (getRec_putRec_ne _ (Ne.symm h) _).trans (getRec_line st n)

theorem station_underTest (st : StState) (r : Record) (i : StationNo) : (underTest st r).station i
    = if i = 7 then { stationIn st with record := some 127 } else Station.blank := by
  fin_cases i <;> rfl

/-- A state whose one record, number 127, stands on no list keeps the record law if its station and its dispatchers agree. -/
theorem recordLaw_of_one {s : State} {r : Record} (hr : ∀ n, s.getRec n = if n = 127 then some r else none)
    (hl : ∀ a, s.dispatch.list a = []) (hc : s.records.closed = []) (hs : ∀ a : Actuator, r.state ≠ a.pendingState)
    (hd : r.state.isClosed = false) (ht : s.TestLaw) (hf : ∀ a, s.FlightLaw a) : s.RecordLaw := by
  have hst (n : RecNo) : s.stateOf n = if n = 127 then some r.state else none := by
    rw [State.stateOf, hr]; split <;> rfl
  have list (a : Actuator) : s.ListLaw a := by
    refine ⟨by rw [hl]; exact List.nodup_nil, fun n => ?_⟩
    rw [hl, hst]
    split <;> simp [hs a]
  refine ⟨list _, list _, ⟨by rw [hc]; exact List.nodup_nil, fun n => ?_⟩, ht, hf _, hf _, fun m n q p h g _ => ?_⟩
  · rw [hc, hst]; split <;> simp [hd]
  · rw [hr] at h g; split at h <;> split at g <;> simp_all

theorem recordLaw_underTest {st : StState} {r : Record} (hst : (stationIn st).testing = true) (hr : r.state = .onTest)
    (hf : r.seatedFrom.isSome = true) : (underTest st r).RecordLaw := by
  have only (n : RecNo) (x : RecState) : (underTest st r).stateOf n = some x ↔ n = 127 ∧ x = .onTest := by
    rw [State.stateOf, getRec_underTest]; split
    · simp [hr, ‹n = 127›, eq_comm]
    · simp [‹n ≠ 127›]
  have under (i : StationNo) (n : RecNo) (h : ((underTest st r).station i).record = some n) : i = 7 ∧ n = 127 := by
    rw [station_underTest] at h; split at h
    · exact ⟨‹_›, (Option.some.inj h).symm⟩
    · exact nomatch h
  refine recordLaw_of_one (getRec_underTest st r) (fun a => by cases a <;> rfl) rfl
    (fun a => by rw [hr]; cases a <;> decide) (by rw [hr]; rfl)
    ⟨fun i => ?_, fun i n h => ?_, fun i j n h g => ?_, fun n h => ⟨7, ?_⟩, fun n q h => ?_⟩
    fun a => ⟨fun c h => ?_, fun n h => ?_⟩
  · rw [station_underTest]; split
    · exact hst.symm
    · rfl
  · rw [only]; exact ⟨(under i n h).2, rfl⟩
  · rw [(under i n h).1, (under j n g).1]
  · rw [((only n _).1 h).1, station_underTest]; rfl
  · rw [getRec_underTest] at h; split at h <;> simp_all
  · cases a <;> exact nomatch h
  · cases a <;> exact nomatch ((only n _).1 h).2

theorem recordLaw_running : running.RecordLaw := recordLaw_underTest (st := .holding) (r := tested) rfl rfl rfl

theorem witness_EveryStepKeepsTheRecordLaw : running.RecordLaw ∧ ∃ t, step running = .next t := ⟨recordLaw_running, _, rfl⟩

theorem witness_EveryStepKeepsTheBankLaw :
    running.RecordLaw ∧ running.BankLaw ∧ ∃ t, step running = .next t := by
  refine ⟨recordLaw_running, ⟨by decide, fun k => ?_, fun n r h => ?_⟩, _, rfl⟩
  · have named (k : BankId) : running.named k = if k = .a then 1 else 0 := by
      have rec_ (n : RecNo) : running.getRec n = if n = 127 then some tested else none := getRec_underTest .holding tested n
      simp only [State.named, rec_]
      cases k <;> decide
    rw [named]; cases k <;> decide
  · rw [show running.getRec n = _ from getRec_underTest .holding tested n] at h
    split at h
    · obtain rfl := Option.some.inj h
      exact ⟨rfl, fun b hb => by obtain rfl := Option.some.inj hb; rfl⟩
    · exact nomatch h

/-- The frame of station 7 in flight, the REPLY queued, and the frame's return deadline the command that waits. -/
def busyPort : State :=
  { calm with
    port := { (calm.port.setSource (.station 7) ⟨.onRing, none⟩).setSource .reply ⟨.queued, some replyFrame⟩ with
      queue := [replyFrame], flights := [stepFlight] }
    pending := [.returnDeadline 255] }

theorem witness_EveryStepKeepsThePortLaw : busyPort.PortLaw ∧ ∃ t, step busyPort = .next t := by
  refine ⟨fun k => ?_, _, rfl⟩
  have law (k : Src) : (busyPort.port.source k).cond = (match k with
        | .station i => if i = 7 then Cond.onRing else .free
        | .reply => .queued
        | _ => .free)
      ∧ (busyPort.port.source k).slot = (if k = .reply then some replyFrame else none)
      ∧ busyPort.port.queuedOf k = (if k = .reply then 1 else 0)
      ∧ busyPort.port.flyingOf k = (if k = .station 7 then 1 else 0) := by
    rcases k with i | _ | _ | _ | _ | _
    · revert i; decide
    all_goals decide
  obtain ⟨h1, h2, h3, h4⟩ := law k
  refine ⟨?_, fun q h => ?_⟩
  · rw [h1, h3, h4]
    rcases k with i | _ | _ | _ | _ | _
    · by_cases hi : i = 7
      · subst hi; simp
      · simp [hi, h2]
    all_goals simp [h2]
  · rw [h2] at h; split at h
    · obtain rfl := Option.some.inj h; exact ‹k = .reply›.symm
    · exact nomatch h

/-! ## The witnesses: the Ring Port -/

/-- The line with the head of the Route FIFO ready to be sent. -/
def routing : State := { calm with dispatch := { calm.dispatch with routes := [⟨[0x41], .test, none⟩] } }

/-- The line with a notice waiting. -/
def noticing : State := { calm with mgmt := { calm.mgmt with notices := [.lost 127 [0x41] none .scrap] } }

theorem witness_OffersAndTheEndOfAnEvent :
    (calm.port.source .notice).cond = .free
      ∧ ((busyPort.port.source stepFrame.src).cond ≠ .free ∧ busyPort.port.monitor = .up)
      ∧ (let p := { busyPort.port with monitor := .down }
        (p.source stepFrame.src).cond ≠ .free ∧ p.monitor = .down)
      ∧ (routing.dispatch.routeD = .idle ∧ routing.dispatch.routes = ⟨[0x41], .test, none⟩ :: []
        ∧ routing.addrOf .diverter = some 14 ∧ routing.dispatch.diverterOffline = false
        ∧ routing.dispatch.diverterHeard = true ∧ routing.port.monitor = .up)
      ∧ State.reset.dispatch.diverterHeard = false
      ∧ calm.dispatch.routes = []
      ∧ (noticing.mgmt.notices = .lost 127 [0x41] none .scrap :: [] ∧ noticing.port.monitor = .up
        ∧ (noticing.port.source .notice).cond = .free)
      ∧ calm.mgmt.notices = [] := by decide

theorem witness_FramesThatNothingActsOn :
    (calm.Hears (unit 62) (List.replicate 48 0) ∧ (63 : Byte) ≠ calm.mgmt.latched.own)
      ∧ (calm.Hears (unit 33) [] ∧ calm.stationAt 33 = none ∧ (8 : BitVec 4) ≠ 9 ∧ calm.roleOf 33 = .unassigned)
      ∧ (calm.Hears (unit 10) [] ∧ calm.stationAt 10 = none ∧ calm.roleOf 10 = .intakeReader
        ∧ ((3 : BitVec 4) ≠ 1 ∧ (3 : BitVec 4) ≠ 2 ∧ (3 : BitVec 4) ≠ 5))
      ∧ (∀ a ∈ [(11 : Byte), 14], calm.Hears (unit a) (tag 2012) ∧ calm.stationAt a = none
        ∧ (calm.roleOf a = .inspection ∨ calm.roleOf a = .diverter))
      ∧ (calm.roleOf 10 ≠ .inspection ∧ calm.roleOf 10 ≠ .markingPress ∧ calm.roleOf 10 ≠ .scrapCell)
      ∧ (∀ p ∈ [[], List.replicate 6 0, List.replicate 8 0], calm.Hears (unit 27) p ∧ p.length ≠ 7)
      ∧ calm.stationAt 27 = some 7
      ∧ (∀ p ∈ [[], [0], [7], [1], [6, 0], List.replicate 48 0], calm.Hears (unit 27) p
        ∧ ((byteAt p 0).toNat, p.length) ∉ [(1, 18), (2, 1), (3, 2), (4, 1), (5, 1), (6, 1)])
      ∧ ((1 : BitVec 4) ≠ 3 ∧ (1 : BitVec 4) ≠ 4 ∧ (1 : BitVec 4) ≠ 9) := by
  refine ⟨by decide, by decide, by decide, by decide, by decide, by decide, by decide, by decide, by decide⟩

theorem witness_ValidFrameBringsTheRingUp :
    let s := ported (fun p => { p with monitor := .down }) (line .resync)
    s.port.monitor = .down
      ∧ State.Hears { s with port := { s.port with monitor := .up } } (unit 2) []
      ∧ (takePlace s.port.transit ≠ none ∧ 1 ≤ s.mgmt.latched.own.toNat ∧ s.mgmt.latched.own.toNat ≤ 62
        ∧ payloadFits (List.replicate 48 0) = true)
      ∧ (s.station 7).state = .resync ∧ (s.port.source (.station 7)).cond = .free
      ∧ (let busy := ported (fun p => p.setSource (.station 7) ⟨.queued, none⟩) s
        (busy.station 7).state = .resync ∧ (busy.port.source (.station 7)).cond ≠ .free)
      ∧ (s.station 6).state ≠ .resync := by
  exact ⟨rfl, by decide, by decide, by decide, by decide, by decide, by decide⟩

theorem witness_BytesArriveOnTheInPair :
    let full := ported (fun p => { p with transit := List.replicate 4 .arriving }) calm
    let oneFree := ported (fun p => { p with transit := List.replicate 3 .arriving }) calm
    Instr.transitOverrun ∈ [Instr.frameBeginsToArrive, Instr.transitOverrun]
      ∧ oneFree.port.transit.length < 4 ∧ 4 ≤ full.port.transit.length := by decide

/-- The bytes of `passing` with its last byte changed, and six bytes, which are no frame. -/
theorem witness_FailedFrameIsDropped :
    takePlace calm.port.transit ≠ none
      ∧ ((parseFrame [2, 33, 1, 0, 1, 7, 0, 0]).all fun f => !f.passes) = true
      ∧ ((parseFrame [2, 33, 1, 0, 0, 0]).all fun f => !f.passes) = true
      ∧ ((unit 0).src = 0 ∧ 62 < (unit 63).src.toNat ∧ 48 < (List.replicate 49 (0 : Byte)).length)
      ∧ takePlace (List.replicate 4 (Place.stored passing)) = none
      ∧ (∀ n ∈ [0, 3, 4], Place.arriving ∉ List.replicate n (Place.stored passing)) := by decide +kernel

theorem witness_OneChangedByteFailsTheCheck :
    passing.passes = true ∧ (3 : Byte) ≠ passing.dst ∧ (34 : Byte) ≠ passing.src ∧ (255 : Byte) ≠ passing.seq
      ∧ (0x81 : Byte) &&& 0x7F = passing.kind &&& 0x7F ∧ (0x41 : Byte) &&& 0x7F ≠ passing.kind &&& 0x7F
      ∧ (0 : Byte) ≠ passing.len ∧ passing.check + 1 ≠ passing.check
      ∧ 0 < passing.payload.length ∧ (8 : Byte) ≠ byteAt passing.payload 0 := by decide +kernel

theorem witness_ArbiterByTheTable :
    let p := calm.port
    let ready := [Place.arriving, .leaving passing, .stored passing]
    (OutPair.own replyFrame passing false ≠ .idle ∧ p.out = .idle)
      ∧ (storedFrame ready = some passing ∧ p.queue = [])
      ∧ (busyPort.port.queue = replyFrame :: [] ∧ (3 < 4 ∧ 4 ≤ 4) ∧ storedFrame [Place.arriving] = none)
      ∧ (storedFrame p.transit = none ∧ p.queue = [])
      ∧ ((List.replicate 17 (0 : Byte)).length = 17 ∧ serialOf (List.replicate 17 0) = none)
      ∧ (goodSerial [0x41] ∧ serialOf (serialField [0x41]) = some [0x41])
      ∧ (∀ x ∈ [Place.arriving, .leaving passing], ∀ g, x ≠ .stored g) := by
  refine ⟨by decide, ⟨rfl, rfl⟩, by decide, by decide, by decide, by decide, fun x hx g => ?_⟩
  simp only [List.mem_cons, List.not_mem_nil, or_false] at hx
  rcases hx with rfl | rfl <;> exact fun h => nomatch h

theorem witness_FrameLeavesTheOutPair :
    let sending (x : OutPair) : State := ported (fun p => { p with out := x }) calm
    (sending (.own stepFrame passing false)).port.out = .own stepFrame passing false
      ∧ (sending (.own stepFrame passing true)).port.out = .own stepFrame passing true
      ∧ (∀ q w b, calm.port.out ≠ .own q w b)
      ∧ (sending (.transit passing)).port.out = .transit passing
      ∧ (∀ f, calm.port.out ≠ .transit f)
      ∧ ∀ x ∈ [Place.arriving, .stored passing], ∀ g, x ≠ .leaving g := by
  have idle : calm.port.out = .idle := rfl
  refine ⟨rfl, rfl, by simp [idle], rfl, by simp [idle], fun x hx g => ?_⟩
  simp only [List.mem_cons, List.not_mem_nil, or_false] at hx
  rcases hx with rfl | rfl <;> exact fun h => nomatch h

/-- In flight: a STEP not yet sent again, a STEP sent again, and a REPLY. -/
def flying : State :=
  ported (fun p => { p with
    flights := [stepFlight, ⟨0, { stepFrame with reinjected := true }, 100⟩, ⟨1, replyFrame, 100⟩] }) calm

theorem witness_OwnFrameReturnsOrNot :
    let same (seq : Byte) (k : BitVec 4) (dst : Byte) (x : Flight) : Bool :=
      x.seq == seq && x.frame.body.kind == k && x.frame.dst == dst
    let late := { flying with clock := 100 }
    (takePlace flying.port.transit ≠ none ∧ flying.port.monitor = .up ∧ 1 ≤ flying.mgmt.latched.own.toNat
        ∧ flying.mgmt.latched.own.toNat ≤ 62 ∧ payloadFits (List.replicate 48 0) = true)
      ∧ flying.port.flights.find? (same 255 8 26) = none
      ∧ flying.port.flights.find? (same 255 8 27) = some stepFlight
      ∧ (stepFlight.frame.body.isOrder = true ∧ stepFlight.frame.reinjected = false)
      ∧ flying.port.flights.find? (same 0 8 27) = some ⟨0, { stepFrame with reinjected := true }, 100⟩
      ∧ flying.port.flights.find? (same 1 10 62) = some ⟨1, replyFrame, 100⟩ ∧ replyFrame.body.isOrder = false
      ∧ flying.port.flights.find? (fun x => x.seq == 2) = none
      ∧ flying.port.flights.find? (fun x => x.seq == 255) = some stepFlight
      ∧ ¬ (({ flying with clock := 99 } : State).clock - stepFlight.deadline).toNat < 2147483648
      ∧ late.port.flights.find? (fun x => x.seq == 255) = some stepFlight
      ∧ (late.clock - stepFlight.deadline).toNat < 2147483648 := by decide

/-- The dispatchers' states in which they are told of an outcome. -/
def dispatching (f : DispatchUnit → DispatchUnit) : State := { calm with dispatch := f calm.dispatch }

/-- A ROUTE order of record 127 on its way. -/
def sending (r : Record) (seq : BitVec 32) : State :=
  { holding r with dispatch := { calm.dispatch with routeD := .sending, routes := [⟨[0x41], .mark, some (127, seq)⟩] } }

/-- A STAMP in flight for record 127, AT PRESS. -/
def pressing : State :=
  { holding { cyl .atPress with verdict := some .pass } with
    dispatch := { calm.dispatch with gate := .gateOpen, markD := .acting ⟨127, [0x41], 1, 30000⟩ } }

theorem witness_OutcomeIsReported :
    (Body.order .vent ≠ .order .abort ∧ ((line .releasing).station 7).state.watched = true
        ∧ ((line .releasing).station 7).record = none)
      ∧ (∀ st ∈ [StState.seated, .ramping, .holding, .venting, .settling],
        ((testing st).station 7).state.inCycle = true ∧ (testing st).Tests 7 127 tested)
      ∧ (∀ r ∈ [cyl .markPending, cyl .scrapPending, cyl .hold], ∀ seq ∈ [(1 : BitVec 32), 2],
        (sending r seq).dispatch.routeStale = false ∧ (sending r seq).dispatch.routeD = .sending
          ∧ (sending r seq).dispatch.routes = ⟨[0x41], .mark, some (127, seq)⟩ :: [] ∧ (sending r seq).getRec 127 = some r)
      ∧ ((cyl .markPending).openSeq = 1 ∧ (2 : BitVec 32) ≠ 1)
      ∧ (calm.dispatch.routeStale = false ∧ calm.dispatch.routeD = .idle ∧ calm.dispatch.stale .scrapCell = false
        ∧ calm.dispatch.disp .scrapCell = .idle ∧ calm.mgmt.responder ≠ .replyPending)
      ∧ (pressing.dispatch.stale .press = false ∧ pressing.dispatch.disp .press = .acting ⟨127, [0x41], 1, 30000⟩
        ∧ pressing.getRec 127 = some { cyl .atPress with verdict := some .pass })
      ∧ (∀ st ∈ [StState.outOfService, .vacant, .faulted, .resync], ((line st).station 7).state.watched = false)
      ∧ (dispatching fun d => { d with routeStale := true }).dispatch.routeStale = true
      ∧ (let s := dispatching fun d => { d with routeD := .sending, routes := [⟨[0x41], .hold, none⟩] }
        s.dispatch.routeStale = false ∧ s.dispatch.routeD = .sending ∧ s.dispatch.routes = ⟨[0x41], .hold, none⟩ :: [])
      ∧ (dispatching fun d => { d with markStale := true }).dispatch.markStale = true
      ∧ (dispatching fun d => { d with scrapStale := true }).dispatch.scrapStale = true
      ∧ (let s := dispatching fun d => { d with markD := .refusing [0x41], scrapD := .refusing [] }
        s.dispatch.markStale = false ∧ s.dispatch.markD = .refusing [0x41]
          ∧ s.dispatch.scrapStale = false ∧ s.dispatch.scrapD = .refusing [])
      ∧ ({ calm.mgmt with responder := .replyPending } : Management).responder = .replyPending
      ∧ (∀ o ∈ [Order.stamp [0x42] ⟨0x41, 0x41, 0x41, 0x41⟩ 5 31, .refuse [0x41], .condemn [0x41] .life],
        ¬ ∃ m month yy, o = .stamp [0x41] m month yy)
      ∧ (∀ o ∈ [Order.stamp [0x41] ⟨0x41, 0x41, 0x41, 0x41⟩ 5 31, .condemn [0x41] .life], ∀ field, o ≠ .refuse field) := by
  exact ⟨by decide, by decide, fun r _ seq _ => ⟨rfl, rfl, rfl, getRec_putRec_self ..⟩, by decide, by decide,
    ⟨by decide, by decide, getRec_putRec_self ..⟩, by decide, by decide, by decide, by decide, by decide, by decide, by decide,
    by simp, by simp⟩

/-! ## The witnesses: requests -/

/-- The line with the Responder in REPLY PENDING. -/
def answering : State := { calm with mgmt := { calm.mgmt with responder := .replyPending } }

theorem witness_RequestAdmission :
    (answering.Hears (unit 33) [] ∧ answering.mgmt.responder ≠ .idle)
      ∧ (calm.Hears (unit 33) [0] ∧ calm.mgmt.responder = .idle ∧ [(0 : Byte)].length < 2)
      ∧ (calm.Hears (unit 61) [0, 23] ∧ (unit 61).src ≠ calm.mgmt.latched.supervisor)
      ∧ (calm.Hears sup [0, 0] ∧ calm.Hears sup [0, 23] ∧ sup.src = calm.mgmt.latched.supervisor
        ∧ 22 < (23 : Byte).toNat)
      ∧ (calm.Hears sup [255, 1] ∧ 1 ≤ (1 : Byte).toNat ∧ ([] : List Byte).length ≠ 2)
      ∧ (calm.Hears sup [255, 22, 0] ∧ (22 : Byte).toNat ≤ 22 ∧ [(0 : Byte)].length ≠ 0)
      ∧ (calm.Hears sup [0, 12, 7, 2] ∧ calm.Hears sup [0, 12, 8, 255] ∧ calm.Hears sup [0, 19, 2, 1]
        ∧ 1 < (2 : Byte).toNat ∧ (7 : Byte).toNat < 8 ∧ 8 ≤ (8 : Byte).toNat) := by
  refine ⟨by decide, by decide, by decide, by decide, by decide, by decide, by decide⟩

theorem witness_ReadsAnswerWhatIsHeld :
    (∀ p : List Byte, p ∈ [[0, 1, 1, 63], [0, 3, 2, 0], [0, 1, 0, 0], [0, 3, 3, 63], [0, 1, 1, 64], [0, 7], [0, 8, 1],
        [0, 8, 62], [0, 8, 0], [0, 8, 63], [0, 10, 7], [0, 10, 8], [0, 20]] → calm.Serves sup p)
      ∧ ((testing .seated).Serves sup [0, 10, 7] ∧ (testing .seated).Tests 7 127 tested)
      ∧ (calm.station 7).record = none ∧ 64 ≤ (64 : Byte).toNat ∧ 62 < (63 : Byte).toNat ∧ 8 ≤ (8 : Byte).toNat := by
  decide

/-- The requests that name a record, by number and by serial, at the ends of their ranges. -/
def naming (code : Byte) (part : List Byte) : List (List Byte) :=
  [0, 1, 2, 255].flatMap fun sel => [127, 128].map fun n =>
    0 :: code :: sel :: (part ++ n :: fieldOf 0x41)

theorem witness_RecordIsRead :
    (∀ part : Byte, part ∈ [1, 2, 0, 255] → ∀ p ∈ naming 14 [part], (holding (cyl .hold)).Serves sup p ∧ calm.Serves sup p)
      ∧ (holding (cyl .hold)).getRec 127 = some (cyl .hold) ∧ (cyl .hold).state ≠ .onTest
      ∧ ((fieldOf 0x41).length = 17 ∧ serialOf (fieldOf 0x41) = some [0x41]) ∧ (holding (cyl .hold)).Holds [0x41] 127 (cyl .hold)
      ∧ ((testing .seated).Serves sup (0 :: 14 :: 0 :: 1 :: 127 :: fieldOf 0x41)
        ∧ (testing .seated).getRec 127 = some tested ∧ tested.state = .onTest
        ∧ ((testing .seated).station 7).record = some 127
        ∧ ∀ j, ((testing .seated).station j).record = some 127 → j = 7)
      ∧ calm.getRec 127 = none ∧ calm.Lacks [0x41]
      ∧ (calm.Serves sup (0 :: 14 :: 1 :: 2 :: 0 :: List.replicate 17 0) ∧ serialOf (List.replicate 17 0) = none) := by
  refine ⟨by decide, by decide, by decide, by decide, holds_holding _, by decide, getRec_line _ _, lacks_line _ _,
    by decide⟩

theorem witness_TalliesAreReadAndCleared :
    (∀ g : Byte, g ∈ [1, 2, 0, 3, 255] → calm.Serves sup [9, 19, 0, g] ∧ calm.Serves sup [9, 19, 1, g])
      ∧ (3 : Byte) ≠ 1 ∧ (3 : Byte) ≠ 2 := by decide

/-! ## The witnesses: tables and management -/

/-- The line with bank B in a state. -/
def bankB (st : BankState) : State := { calm with banks := { calm.banks with b := { calm.banks.b with state := st } } }

theorem witness_FirstMatchingEntryDecidesTheType :
    let m : MatchEntry := ⟨true, 0x310, 0xFFFF, 0, 0, 63⟩
    calm.banks.a.matchTable[63] = m ∧ m.valid = true
      ∧ (0x310 : Word16) &&& m.makerMask = m.makerKey &&& m.makerMask
      ∧ (0xFFFF : Word16) &&& m.modelMask = m.modelKey &&& m.modelMask
      ∧ calm.banks.a.resolve 0x310 0xFFFF = some 63 := by decide

/-- The type entry with its test pressure, its expansion limit and its permanent limit changed. -/
def offered (pt ree perm : Nat) : TypeEntry := { gauge with pt := pt, ree := ree, permLimit := perm }

theorem witness_TypeEntryIsWritten :
    let args (k : BankId) := k.code :: byteOf 63 :: gauge.bytes
    gauge.Fits
      ∧ (calm.Serves sup (255 :: 2 :: args .a) ∧ (calm.banks.get .a).state = .active)
      ∧ ((bankB .retiring).Serves sup (255 :: 2 :: args .b) ∧ ((bankB .retiring).banks.get .b).state = .retiring)
      ∧ (calm.Serves sup (255 :: 2 :: args .b) ∧ (calm.banks.get .b).state = .standby ∧ gauge.valid = true)
      ∧ (∀ x ∈ [offered 999 1 1, offered 60001 1 1, offered 1000 0 1, offered 60000 65535 0, offered 1000 1 1,
          offered 60000 65535 255], x.Fits)
      ∧ ¬ (gauge.pt < 1000 ∨ 60000 < gauge.pt ∨ gauge.ree = 0 ∨ gauge.permLimit = 0)
      ∧ TypeEntry.invalid.Fits
      ∧ (∀ x y : Byte, (x, y) ∈ [((0 : Byte), (0 : Byte)), (3, 63), (1, 64), (2, 255)] →
        ((x ≠ 1 ∧ x ≠ 2) ∨ 64 ≤ y.toNat) ∧ calm.Serves sup (255 :: 2 :: x :: y :: gauge.bytes)) := by
  refine ⟨by decide, by decide, by decide, by decide, by decide, by decide, by decide, fun x y h => ?_⟩
  simp only [List.mem_cons, Prod.mk.injEq, List.not_mem_nil, or_false] at h
  rcases h with ⟨rfl, rfl⟩ | ⟨rfl, rfl⟩ | ⟨rfl, rfl⟩ | ⟨rfl, rfl⟩ <;> decide

theorem witness_MatchEntryIsWritten :
    let m : MatchEntry := ⟨true, 0x310, 0xFFFF, 0x40, 0xFFF0, 63⟩
    (calm.Serves sup (0 :: 4 :: BankId.a.code :: byteOf 63 :: m.bytes) ∧ (calm.banks.get .a).state = .active)
      ∧ (calm.Serves sup (0 :: 4 :: BankId.b.code :: byteOf 0 :: m.bytes) ∧ (calm.banks.get .b).state = .standby)
      ∧ ((bankB .retiring).Serves sup (0 :: 4 :: BankId.b.code :: byteOf 0 :: m.bytes)
        ∧ ((bankB .retiring).banks.get .b).state = .retiring)
      ∧ (m.valid = true ∧ MatchEntry.invalid.valid = false)
      ∧ calm.Serves sup (0 :: 4 :: BankId.b.code :: byteOf 63 :: 1 :: (List.replicate 8 0 ++ [64]))
      ∧ 64 ≤ (64 : Byte).toNat
      ∧ calm.Serves sup (0 :: 4 :: 0 :: 0 :: m.bytes) ∧ calm.Serves sup (0 :: 4 :: 1 :: 64 :: m.bytes) := by decide

theorem witness_BanksAreCopiedAndActivated :
    ((calm.banks.get .a).state = .active ∧ (calm.banks.get BankId.a.other).state ≠ .active)
      ∧ (calm.Serves sup [0, 5] ∧ calm.Serves sup [0, 6] ∧ (calm.banks.get .b).state = .standby)
      ∧ (∀ c : Fin 64, (calm.banks.get .b).typeTable[c].valid = false)
      ∧ ((bankB .retiring).Serves sup [0, 5] ∧ (bankB .retiring).Serves sup [0, 6])
      ∧ (let s := { calm with banks := { calm.banks with b := { calm.banks.a with state := .standby } } }
        s.Serves sup [0, 6] ∧ (s.banks.get .b).state = .standby ∧ (s.banks.get .b).typeTable[63].valid = true) := by
  decide

theorem witness_UnitRoleIsWritten :
    (calm.Serves sup [0, 9, byteOf 1, Role.inspection.code] ∧ byteOf 1 = calm.mgmt.latched.own)
      ∧ (calm.Serves sup [0, 9, byteOf 62, Role.inspection.code] ∧ byteOf 62 = calm.mgmt.latched.supervisor)
      ∧ (calm.Serves sup [0, 9, byteOf 27, Role.diverter.code] ∧ (calm.station 7).cfg.addr = byteOf 27)
      ∧ (calm.Serves sup [0, 9, byteOf 61, Role.markingPress.code] ∧ calm.roles[(11 : Fin 62)] = .markingPress)
      ∧ (let s := dispatching fun d => { d with routeD := .sending }
        s.Serves sup [0, 9, byteOf 14, Role.unassigned.code] ∧ s.roles[(13 : Fin 62)] = .diverter
          ∧ s.dispatch.routeD ≠ .idle)
      ∧ (calm.Serves sup [0, 9, byteOf 14, Role.inspection.code] ∧ calm.roles[(13 : Fin 62)] = .diverter
        ∧ calm.dispatch.routeD = .idle)
      ∧ (calm.Serves sup [0, 9, byteOf 61, Role.intakeReader.code] ∧ (∀ j, (calm.station j).cfg.addr ≠ byteOf 61)
        ∧ calm.roles[(60 : Fin 62)] = .unassigned)
      ∧ (calm.Serves sup [0, 9, 0, 0] ∧ calm.Serves sup [0, 9, 63, 0] ∧ calm.Serves sup [0, 9, 1, 6]
        ∧ 5 < (6 : Byte).toNat) := by
  refine ⟨by decide, by decide, by decide, by decide, ?_, by decide, by decide, by decide⟩
  exact ⟨by decide, by decide, by decide⟩

/-- A station configuration as a request offers it. -/
def rest (addr : Byte) (k period silence : Nat) : List Byte :=
  addr :: (beBytes 2 k ++ beBytes 2 period ++ [byteOf silence])

theorem witness_StationEntryIsWritten :
    (calm.Serves sup (0 :: 11 :: byteOf 7 :: rest 20 4095 99 0) ∧ (calm.station 7).state ≠ .outOfService)
      ∧ (∀ x ∈ [rest 0 0 0 0, rest 20 4095 99 0, rest 61 0 2001 31, rest 63 0 0 0, rest 1 0 0 0, rest 62 0 0 0,
          rest 27 0 0 0, rest 14 0 0 0, rest 20 4096 0 255], calm.Serves sup (0 :: 11 :: byteOf 0 :: x))
      ∧ (calm.station 0).state = .outOfService ∧ 62 < (63 : Byte).toNat ∧ calm.roleOf 14 ≠ .unassigned
      ∧ ¬ (62 < (20 : Byte).toNat ∨ (20 : Byte) = calm.mgmt.latched.own ∨ (20 : Byte) = calm.mgmt.latched.supervisor
        ∨ (∃ j : StationNo, j ≠ 0 ∧ (calm.station j).cfg.addr = 20) ∨ calm.roleOf 20 ≠ .unassigned ∨ 4095 < 4095)
      ∧ calm.Serves sup (0 :: 11 :: 8 :: rest 20 0 0 0) := by decide

/-- The line with its latched options changed. -/
def latching (f : Options → Options) : State := { calm with mgmt := { calm.mgmt with latched := f calm.mgmt.latched } }

theorem witness_StationEntersServiceOrIsCleared :
    ((latching fun o => { o with enabled := 7 }).Serves sup [0, 12, byteOf 7, 1]
        ∧ (latching fun o => { o with enabled := 7 }).mgmt.latched.enabled ≤ 7)
      ∧ (calm.Serves sup [0, 12, byteOf 0, 1] ∧ 0 < calm.mgmt.latched.enabled ∧ (calm.station 0).cfg.addr = 0)
      ∧ (∀ st ∈ [StState.outOfService, .vacant, .seated, .releasing, .faulted, .resync],
        (line st).Serves sup [0, 12, byteOf 7, 1] ∧ (line st).Serves sup [0, 13, byteOf 7]
          ∧ 7 < (line st).mgmt.latched.enabled ∧ ((line st).station 7).cfg.addr ≠ 0 ∧ ((line st).station 7).state = st)
      ∧ StState.watched .seated = true ∧ StState.watched .releasing = true
      ∧ (calm.Serves sup [0, 12, 8, 1] ∧ calm.Serves sup [0, 13, 8] ∧ 8 ≤ (8 : Byte).toNat) := by decide

theorem witness_StationLeavesService :
    (∀ st ∈ [StState.outOfService, .vacant, .faulted, .resync, .releasing],
        (line st).Serves sup [0, 12, byteOf 7, 0] ∧ ((line st).station 7).state = st)
      ∧ (∀ st ∈ [StState.seated, .settling, .ramping, .holding, .venting],
        (testing st).Serves sup [0, 12, byteOf 7, 0] ∧ ((testing st).station 7).state = st)
      ∧ calm.Serves sup [0, 12, 8, 0] := by decide

theorem witness_RecordIsRemoved :
    (∀ p ∈ naming 15 [], (holding (cyl .hold)).Serves sup p ∧ calm.Serves sup p)
      ∧ (∀ st ∈ [RecState.hold, .marked, .scrapped, .lost, .identified, .atScrapCell],
        (holding (cyl st)).getRec 127 = some (cyl st) ∧ (cyl st).state = st)
      ∧ ((fieldOf 0x41).length = 17 ∧ serialOf (fieldOf 0x41) = some [0x41]) ∧ (holding (cyl .hold)).Holds [0x41] 127 (cyl .hold)
      ∧ calm.getRec 127 = none ∧ calm.Lacks [0x41]
      ∧ (calm.Serves sup (0 :: 15 :: 1 :: 0 :: List.replicate 17 0) ∧ serialOf (List.replicate 17 0) = none) := by
  refine ⟨by decide, by decide, by decide, holds_holding _, getRec_line _ _, lacks_line _ _, by decide⟩

theorem witness_CalendarAndGateAreSet :
    (∀ x ∈ [((1 : Byte), 2000), (12, 2099), (0, 2000), (13, 2000), (1, 1999), (1, 2100)],
        calm.Serves sup (0 :: 16 :: x.1 :: beBytes 2 x.2))
      ∧ (calm.Serves sup [0, 17] ∧ calm.mgmt.latched.mark = ⟨0x20, 0x20, 0x20, 0x20⟩)
      ∧ (let s := latching fun o => { o with mark := ⟨0x41, 0x20, 0x20, 0x20⟩ }
        s.Serves sup [0, 17] ∧ s.mgmt.calendar ≠ none ∧ s.mgmt.latched.mark ≠ ⟨0x20, 0x20, 0x20, 0x20⟩)
      ∧ calm.Serves sup [0, 18] := by decide

theorem witness_OptionsAreWritten :
    let o : Options := ⟨62, 1, ⟨0x41, 0x5A, 0x30, 0x20⟩, 8, .strict⟩
    let writing (cancelled : Bool) : State := { calm with
      mgmt := { calm.mgmt with responder := .working ⟨o, 62, 255, cancelled⟩ } }
    (calm.Serves sup (255 :: 21 :: o.bytes) ∧ (∀ a ∈ [o.own, o.supervisor], 1 ≤ a.toNat ∧ a.toNat ≤ 62)
        ∧ o.own ≠ o.supervisor ∧ (∀ c ∈ [o.mark.c0, o.mark.c1, o.mark.c2, o.mark.c3], markChar c = true)
        ∧ 1 ≤ o.enabled ∧ o.enabled ≤ 8)
      ∧ (∀ x ∈ [[(0 : Byte), 62, 32, 32, 32, 32, 8, 0], [63, 62, 32, 32, 32, 32, 8, 0], [1, 0, 32, 32, 32, 32, 8, 0],
          [1, 63, 32, 32, 32, 32, 8, 0], [62, 62, 32, 32, 32, 32, 8, 0], [1, 62, 32, 32, 32, 0x2D, 8, 0],
          [1, 62, 32, 32, 32, 32, 0, 0], [1, 62, 32, 32, 32, 32, 9, 0], [1, 62, 32, 32, 32, 32, 8, 2]],
        calm.Serves sup (0 :: 21 :: x))
      ∧ markChar 0x2D = false ∧ 62 < (63 : Byte).toNat ∧ 8 < (9 : Byte).toNat ∧ 1 < (2 : Byte).toNat
      ∧ (writing true).mgmt.responder = .working ⟨o, 62, 255, true⟩
      ∧ (writing false).mgmt.responder = .working ⟨o, 62, 255, false⟩ ∧ calm.mgmt.responder = .idle := by decide

theorem witness_LineResetEmptiesTheLine :
    (∀ st ∈ [StState.outOfService, .vacant, .seated, .faulted, .resync],
        (line st).Serves sup [0, 22] ∧ ((line st).station 7).state = st
          ∧ ((line st).port.source (.station 7)).cond = .free)
      ∧ (testing .releasing).Serves sup [0, 22] ∧ StState.watched .releasing = true := by decide

theorem recordLaw_pressing : pressing.RecordLaw := by
  have getRec_ (n : RecNo) : pressing.getRec n = if n = 127 then some { cyl .atPress with verdict := some .pass } else none := by
    by_cases h : n = 127
    · subst h; exact getRec_putRec_self ..
    · rw [if_neg h]; exact (getRec_putRec_ne _ (Ne.symm h) _).trans (getRec_line .vacant n)
  have only (n : RecNo) (st : RecState) : pressing.stateOf n = some st ↔ n = 127 ∧ st = .atPress := by
    rw [State.stateOf, getRec_]; split <;> simp_all [cyl, eq_comm]
  have idle (i : StationNo) : (pressing.station i).record = none := by revert i; decide
  refine recordLaw_of_one getRec_ (fun a => by cases a <;> rfl) rfl
    (fun a => by cases a <;> decide) rfl ⟨by decide, fun i n h => ?_, fun i j n h _ => ?_, fun n h => ?_, fun n r h => ?_⟩
    fun a => ⟨fun c h => ?_, fun n h => ?_⟩
  · rw [idle] at h; exact nomatch h
  · rw [idle] at h; exact nomatch h
  · exact nomatch ((only n _).1 h).2
  · rw [getRec_] at h; split at h <;> simp_all [cyl]; subst h; rfl
  · cases a
    · obtain rfl := ActDispatcher.acting.inj (show ActDispatcher.acting ⟨127, [0x41], 1, 30000⟩ = .acting c from h)
      exact (only _ _).2 ⟨rfl, rfl⟩
    · exact nomatch h
  · cases a
    · exact ⟨_, rfl, ((only n _).1 h).1.symm⟩
    · exact nomatch ((only n _).1 h).2

theorem witness_RingLossStopsTheRing :
    calm.port.monitor = .up
      ∧ ¬ (({ calm with clock := 19 } : State).clock - (calm.port.lastActivity + 20)).toNat < 2147483648
      ∧ (({ calm with clock := 20 } : State).clock - (calm.port.lastActivity + 20)).toNat < 2147483648
      ∧ State.reset.port.monitor = .down
      ∧ pressing.dispatch.markD = .acting ⟨127, [0x41], 1, 30000⟩
      ∧ ((line .releasing).station 7).state.watched = true ∧ (calm.station 7).state.watched = false
      ∧ (pressing.RecordLaw ∧ pressing.getRec 127 = some { cyl .atPress with verdict := some .pass }
        ∧ (126 : RecNo) ∉ ((List.finRange 8).filterMap fun i => (pressing.station i).record))
      ∧ (running.RecordLaw ∧ running.Tests 7 127 tested ∧ (running.station 7).state ≠ .seated
        ∧ tested.findings &&& (running.typeEntry tested).condemnMask = 0 ∧ 0 < tested.retestsLeft
        ∧ running.port.monitor = .up)
      ∧ ((testing .seated).RecordLaw ∧ (testing .seated).Tests 7 127 tested ∧ ((testing .seated).station 7).state = .seated
        ∧ tested.seatedFrom = some .inspected)
      ∧ (let spent := { tested with retestsLeft := 0 }
        (underTest .settling spent).RecordLaw ∧ (underTest .settling spent).Tests 7 127 spent
          ∧ ((underTest .settling spent).station 7).state ≠ .seated
          ∧ spent.findings &&& ((underTest .settling spent).typeEntry spent).condemnMask = 0)
      ∧ (let bad := { tested with findings := 0x40 }
        let s := underTest .ramping bad
        (s.RecordLaw ∧ s.Tests 7 127 bad ∧ (s.station 7).state ≠ .seated
            ∧ bad.findings &&& (s.typeEntry bad).condemnMask ≠ 0)
          ∧ ((List.finRange 8).filterMap fun i => if (s.station i).state = .seated then none else (s.station i).record)
            = [] ++ 127 :: []
          ∧ s.dispatch.scrapList.length < 32 ∧ s.online .scrapCell = true ∧ s.dispatch.routes.length + 0 < 4
          ∧ (let off := { s with dispatch := { s.dispatch with scrapOffline := true } }
            off.RecordLaw ∧ off.online .scrapCell = false)
          ∧ (let tight := { s with dispatch := { s.dispatch with routes := List.replicate 4 ⟨[0x42], .hold, none⟩ } }
            tight.RecordLaw ∧ tight.dispatch.routes.length + 0 = 4 ∧ tight.online .scrapCell = true)) := by
  have bad : (underTest .ramping { tested with findings := 0x40 }).RecordLaw := recordLaw_underTest rfl rfl rfl
  refine ⟨by decide, by decide, by decide, by decide, by decide, by decide, by decide, ⟨recordLaw_pressing, by decide, by decide⟩,
    ⟨recordLaw_running, by decide, by decide, by decide, by decide, by decide⟩,
    ⟨recordLaw_underTest rfl rfl rfl, ⟨by decide, getRec_underTest ..⟩, by decide, by decide⟩,
    ⟨recordLaw_underTest rfl rfl rfl, ⟨by decide, getRec_underTest ..⟩, by decide, by decide⟩,
    ⟨bad, ⟨by decide, getRec_underTest ..⟩, by decide, by decide⟩, by decide, by decide, by decide, by decide,
    ⟨bad, by decide⟩, ⟨bad, by decide, by decide⟩⟩

/-! ## The witnesses: intake and inspection -/

theorem witness_IntakeReadIsTurnedAway :
    (∀ p ∈ [[], List.replicate 24 0, List.replicate 26 0, tag 1949, tag 2100,
        tagPayload (List.replicate 17 0) 0 0 1950 0], calm.HearsRole (unit 10) p .intakeReader)
      ∧ (tag 2012).length = 25
      ∧ (let s := { calm with mgmt := { calm.mgmt with calendar := none } }
        s.HearsRole (unit 10) (tag 2012) .intakeReader ∧ s.mgmt.calendar = none)
      ∧ (let s := dispatching fun d => { d with routes := List.replicate 4 ⟨[0x41], .hold, none⟩ }
        s.HearsRole (unit 10) (tag 2012) .intakeReader ∧ 4 ≤ s.dispatch.routes.length)
      ∧ (calm.mgmt.calendar ≠ none ∧ calm.dispatch.routes.length < 4 ∧ (fieldOf 0x41).length = 17
        ∧ serialOf (List.replicate 17 0) = none) := by
  refine ⟨by decide, by decide, by decide, by decide, by decide⟩

/-- A line in which all 128 numbers hold records, the last one closed. -/
def crowded (closed : List RecNo) : State :=
  { calm with records := ⟨Vector.replicate 128 (some (cyl .marked)), closed, 4294967295⟩ }

theorem getRec_crowded (l : List RecNo) (n : RecNo) : (crowded l).getRec n = some (cyl .marked) := by
  simp [crowded, State.getRec]

theorem witness_IntakeReadOpensOrReopens :
    ((∀ c ∈ [(0x41 : Byte), 0x42], (fieldOf c).length = 17 ∧ serialOf (fieldOf c) = some [c]) ∧ 1950 ≤ 1950 ∧ 2099 ≤ 2099 ∧ 65535 < 65536)
      ∧ (calm.HearsRole (unit 10) (tagPayload (fieldOf 0x41) 0x310 0 1950 0) .intakeReader
        ∧ calm.mgmt.calendar ≠ none ∧ calm.dispatch.routes.length < 4)
      ∧ (calm.Lacks [0x41] ∧ calm.getRec 0 = none ∧ ∀ m : RecNo, m < 0 → calm.getRec m ≠ none)
      ∧ (∀ l, (crowded l).Lacks [0x42] ∧ (∀ m, (crowded l).getRec m ≠ none) ∧ (crowded l).records.closed = l)
      ∧ (crowded [127]).HearsRole (unit 10) (tagPayload (fieldOf 0x42) 0x310 0 2099 65535) .intakeReader
      ∧ (crowded []).HearsRole (unit 10) (tagPayload (fieldOf 0x42) 0x310 0 2099 65535) .intakeReader
      ∧ (127 : RecNo) ∉ ([] : List RecNo)
      ∧ (∀ st, (holding (cyl st)).Holds [0x41] 127 (cyl st) ∧ (cyl st).state = st)
      ∧ (holding (cyl .marked)).getRec 0 = none
      ∧ (holding (cyl .hold)).HearsRole (unit 10) (tag 2012) .intakeReader := by
  refine ⟨by decide, by decide, ⟨lacks_line _ _, getRec_line _ _, fun m h => (Fin.not_lt_zero m h).elim⟩, fun l => ⟨?_, ?_,
    rfl⟩, by decide, by decide, List.not_mem_nil, fun st => ⟨holds_holding (cyl st), rfl⟩, by decide, by decide⟩
  · intro m q h
    rw [getRec_crowded] at h
    obtain rfl := Option.some.inj h
    decide
  · intro m
    rw [getRec_crowded]
    exact Option.some_ne_none _

theorem witness_OpenedRecordIsTyped :
    ((calm.banks.get .a).state = .active ∧ (calm.banks.get BankId.a.other).state ≠ .active
        ∧ calm.mgmt.calendar = some ⟨5, 2031⟩ ∧ calm.dispatch.routes.length < 4)
      ∧ (calm.banks.get .a).resolve 0x311 0 = none ∧ (calm.banks.get .a).resolve 0x310 0x47 = some 63
      ∧ (calm.banks.get .a).typeTable[(63 : TypeCode)].serviceLife = 30
      ∧ 2031 < 2032 ∧ 30 ≤ 2031 - 2001 ∧ 2031 - 2002 < 30 := by decide

theorem witness_WeightCheckByTheTable :
    (1 ≤ 1 ∧ 20000 ≤ 20000) ∧ (1450 : Nat) ≤ 1450 ∧ 1449 < 1450 ∧ (51 ≠ 0 ∧ 50 < (1000 - 949) * 1000 / 1000)
      ∧ (1000 - 950) * 1000 / 1000 ≤ 50
      ∧ (FindingFields.mk [] 0 0 0 (some 20000)).tare = some 20000 := by decide

/-- Record 127 with findings and a weight check, naming bank A. -/
def judged (findings : Word16) (w : WeightCheck) (st : RecState) : Record :=
  { cyl st with bank := some ⟨.a, 0⟩, findings := findings, weight := w }

theorem witness_EarlyVerdictByTheTable_pinned :
    let s := { calm with banks := { calm.banks with
      a := { calm.banks.a with state := .retiring, refs := 1 }, b := { calm.banks.b with state := .active, gen := 1 } } }
    (s.banks.get .a).state = .retiring ∧ tested.bank = some ⟨.a, 0⟩ ∧ tested.typeCode = some 63
      ∧ s.typeEntry tested = gauge := by decide

theorem witness_EarlyVerdictByTheTable :
    let e := (holding (judged 0 .ok .identified)).typeEntry (judged 0 .ok .identified)
    e = gauge ∧ (holding (judged 0x40 .ok .inspected)).getRec 127 = some (judged 0x40 .ok .inspected)
      ∧ (judged 0x40 .ok .inspected).findings &&& e.condemnMask ≠ 0
      ∧ (judged 0x08 .loss .inspected).findings &&& e.condemnMask = 0 ∧ e.tareLossLimit ≠ 0
      ∧ (judged 0x08 .ok .inspected).findings &&& e.holdMask &&& ~~~e.condemnMask ≠ 0
      ∧ (judged 0x01 .noTagTare .inspected).findings &&& e.holdMask = 0 := by decide

theorem witness_FindingIsApplied :
    let report (field : List Byte) (tare : Nat) := findingPayload field 0xFF 0x08 0x40 tare
    (∀ p ∈ [[], List.replicate 23 0, List.replicate 25 0, report (List.replicate 17 0) 0, report (fieldOf 0x41) 0],
        calm.HearsRole (unit 11) p .inspection)
      ∧ (report (fieldOf 0x41) 65535).length = 24 ∧ serialOf (List.replicate 17 0) = none
      ∧ serialOf (fieldOf 0x41) = some [0x41] ∧ calm.Lacks [0x41] ∧ (fieldOf 0x41).length = 17
      ∧ (∀ st, (holding (judged 0 .ok st)).Holds [0x41] 127 (judged 0 .ok st) ∧ (judged 0 .ok st).state = st)
      ∧ (∀ st ∈ [RecState.onTest, .identified, .inspected, .retestWait, .markPending, .lost],
        (holding (judged 0 .ok st)).HearsRole (unit 11) (report (fieldOf 0x41) 20000) .inspection)
      ∧ gauge.required &&& ~~~(0x9D : BitVec 8) = 0 ∧ gauge.required &&& ~~~(0x1D : BitVec 8) ≠ 0
      ∧ ¬ 4 ≤ calm.dispatch.routes.length
      ∧ (let s := (dispatching fun d => { d with routes := List.replicate 4 ⟨[0x41], .hold, none⟩ }).putRec 127
          (some (judged 0 .ok .retestWait))
        s.HearsRole (unit 11) (report (fieldOf 0x41) 1) .inspection ∧ 4 ≤ s.dispatch.routes.length
          ∧ s.getRec 127 = some (judged 0 .ok .retestWait)) := by
  refine ⟨by decide, by decide, by decide, by decide, lacks_line _ _, by decide, fun st => ⟨holds_holding (judged 0 .ok st),
    rfl⟩, by decide, by decide, by decide, by decide, by decide⟩

/-! ## The witnesses: verdicts -/

theorem witness_CorrectionIsTheNearestWhole :
    (4095 ≤ 4095 ∧ (-9999 : Int) ≤ -9999 ∧ (9999 : Int) ≤ 9999)
      ∧ (256 * correction 1 128 - 128).natAbs = 128
      ∧ (expansionOf 4095 ⟨0, 0⟩ ⟨65534, 0⟩ ⟨0, 9999⟩).perm = some ⟨0, 65534, 0⟩ := by decide

theorem witness_ExpansionFigures :
    (∀ x ∈ [(⟨1000, 2000⟩ : Reading), ⟨1160, 2010⟩, ⟨65534, 9999⟩], x.level ≤ 65534 ∧ x.temp ≤ 9999)
      ∧ (expansionOf 0 ⟨1, 0⟩ ⟨1, 0⟩ ⟨0, 0⟩).et ≤ 0 ∧ 1 ≤ (expansionOf 0 ⟨1, 0⟩ ⟨2, 0⟩ ⟨1, 0⟩).et := by decide

theorem witness_VerdictOrderRows :
    let x : Expansion := ⟨3425, ⟨false, false⟩, some ⟨305, 3120, 89⟩⟩
    (judged 0x40 .ok .onTest).findings &&& gauge.condemnMask ≠ 0
      ∧ (judged 0x08 .ok .onTest).findings &&& gauge.condemnMask = 0
      ∧ ((0 : Int) ≤ 0 ∧ 0 < x.et ∧ ¬ (gauge.ree : Int) < 3800 ∧ (gauge.ree : Int) < 3801)
      ∧ (¬ gauge.permLimit < 100 ∧ gauge.permLimit < 101)
      ∧ (judged 0x08 .ok .onTest).findings &&& gauge.holdMask &&& ~~~gauge.condemnMask ≠ 0 ∧ gauge.tareLossLimit ≠ 0 := by
  decide

theorem witness_VerdictIsApplied :
    (holding tested).getRec 127 = some tested
      ∧ (let s := dispatching fun d => { d with markList := List.replicate 32 0 }
        32 ≤ (s.dispatch.list .press).length)
      ∧ (let s := dispatching fun d => { d with scrapList := List.replicate 31 0, scrapOffline := true }
        (s.dispatch.list .scrapCell).length < 32 ∧ s.online .scrapCell = false)
      ∧ (calm.online .press = true ∧ calm.dispatch.routes.length < 4)
      ∧ (let s := dispatching fun d => { d with routes := List.replicate 4 ⟨[0x41], .hold, none⟩ }
        s.online .press = true ∧ ¬ s.dispatch.routes.length < 4)
      ∧ 0 < tested.retestsLeft ∧ (tested.retestsLeft = 1) := by decide

/-! ## The witnesses: stations -/

theorem witness_TestEndsEarly :
    (∀ st ∈ [StState.seated, .ramping, .holding, .venting, .settling],
        (testing st).Tests 7 127 tested ∧ ((testing st).station 7).state = st)
      ∧ tested.seatedFrom = some .inspected ∧ (testing .seated).typeEntry tested = gauge
      ∧ tested.findings &&& gauge.condemnMask = 0 ∧ (judged 0x40 .ok .onTest).findings &&& gauge.condemnMask ≠ 0
      ∧ (∀ st ∈ [StState.venting, .releasing, .vacant], ((line st).station 7).record = none ∧ ((line st).station 7).state = st)
      ∧ StState.releasing.inCycle = false := by
  decide

/-- The line with station 7 changed and a record in number 127. -/
def meeting (st : StState) (f : Station → Station) (r : Record) : State :=
  ((line st).putRec 127 (some r)).updStation 7 f

theorem holds_meeting (st : StState) (f : Station → Station) (r : Record) : (meeting st f r).Holds r.serial 127 r :=
  show ((line st).putRec 127 (some r)).Holds r.serial 127 r from by
    refine ⟨getRec_putRec_self .., rfl, fun m q h _ => ?_⟩
    by_contra hm
    rw [getRec_putRec_ne _ (Ne.symm hm), getRec_line] at h
    exact nomatch h

theorem witness_SeatIsAccepted :
    ((fieldOf 0x41).length = 17 ∧ serialOf (fieldOf 0x41) = some [0x41])
      ∧ (let s := meeting .vacant id (judged 0 .ok .inspected)
        s.HearsStation (unit 27) (1 :: fieldOf 0x41) 7 ∧ s.Holds [0x41] 127 (judged 0 .ok .inspected)
          ∧ (judged 0 .ok .inspected).state = SeatedFrom.inspected.recState ∧ (s.station 7).state = .vacant
          ∧ (s.station 7).sealPending = false)
      ∧ (let s := meeting .releasing id (judged 0 .ok .retestWait)
        s.HearsStation (unit 27) (1 :: fieldOf 0x41) 7 ∧ s.Holds [0x41] 127 (judged 0 .ok .retestWait)
          ∧ (judged 0 .ok .retestWait).state = SeatedFrom.retestWait.recState ∧ (s.station 7).state = .releasing
          ∧ (s.station 7).leaving = false) := by
  refine ⟨by decide, ⟨by decide, holds_meeting .vacant id _, by decide, by decide, by decide⟩,
    ⟨by decide, holds_meeting .releasing id _, by decide, by decide, by decide⟩⟩

theorem witness_SeatIsRefused :
    (fieldOf 0x41).length = 17
      ∧ (∀ st ∈ [StState.outOfService, .faulted, .resync, .vacant, .releasing],
        (line st).HearsStation (unit 27) (1 :: fieldOf 0x41) 7 ∧ ((line st).station 7).state = st)
      ∧ (let s := meeting .releasing (fun x => { x with leaving := true }) (cyl .hold)
        s.HearsStation (unit 27) (1 :: fieldOf 0x41) 7 ∧ (s.station 7).leaving = true)
      ∧ (∀ sr, serialOf (fieldOf 0x41) = some sr → ∀ n r, calm.getRec n = some r → r.serial = sr →
        r.state ≠ .inspected ∧ r.state ≠ .retestWait)
      ∧ (let s := meeting .vacant (fun x => { x with sealPending := true }) (cyl .inspected)
        s.HearsStation (unit 27) (1 :: fieldOf 0x41) 7 ∧ (s.station 7).sealPending = true
          ∧ s.Holds [0x41] 127 (cyl .inspected))
      ∧ (∀ st ∈ [StState.seated, .ramping, .holding, .venting, .settling],
        (testing st).HearsStation (unit 27) (1 :: fieldOf 0x41) 7
          ∧ ((testing st).station 7).state.inCycle = true) := by
  refine ⟨by decide, by decide, by decide, fun sr _ n r h => ?_, ⟨by decide, by decide, holds_meeting .vacant _ _⟩,
    by decide⟩
  rw [calm, getRec_line] at h
  exact nomatch h

theorem witness_StationEventsByState :
    (∀ c ∈ [(2 : Byte), 5, 6], ∀ st ∈ [StState.outOfService, .vacant, .releasing, .faulted, .resync],
        (line st).HearsStation (unit 27) [c] 7 ∧ ((line st).station 7).state = st
          ∧ ((line st).station 7).record = none ∧ ((line st).station 7).leaving = false)
      ∧ (∀ c ∈ [(2 : Byte), 5, 6], ∀ st ∈ [StState.seated, .ramping, .holding, .venting, .settling],
        (testing st).HearsStation (unit 27) [c] 7 ∧ ((testing st).station 7).state = st
          ∧ ((testing st).station 7).record ≠ none)
      ∧ (let s := meeting .resync (fun x => { x with leaving := true }) (cyl .hold)
        s.HearsStation (unit 27) [5] 7 ∧ (s.station 7).state = .resync ∧ (s.station 7).leaving = true) := by
  refine ⟨by decide, by decide, by decide⟩

theorem witness_ScanFindsTheSilent :
    let s := { line .releasing with clock := 5632 }
    ({ calm with clock := 511 } : State).clock.toNat % 1024 ≠ 512
      ∧ s.clock.toNat % 1024 = 512 ∧ (s.station 7).state.watched = true
      ∧ (s.station 7).cfg.silence * 1000 < (s.clock - (s.station 7).lastFrame).toNat
      ∧ ¬ 5000 < ((5000 : Clock) - (s.station 7).lastFrame).toNat ∧ (∃ t, exec .supervisionScan s = .next t) :=
  ⟨by decide, by decide, by decide, by decide, by decide, _, rfl⟩

theorem witness_ReachedAndVented :
    let ramping (k : Nat) : State := (testing .ramping).updStation 7 fun x => { x with step := k }
    (∀ k ∈ [1, 3, 4, 16], (ramping k).HearsStation (unit 27) [3, byteOf k] 7 ∧ (ramping k).Tests 7 127 tested
        ∧ ((ramping k).station 7).state = .ramping ∧ (byteOf k).toNat = ((ramping k).station 7).step)
      ∧ ((ramping 3).typeEntry tested).steps = 4
      ∧ ((testing .seated).HearsStation (unit 27) [3, 0] 7 ∧ ((testing .seated).station 7).state ≠ .ramping)
      ∧ ((ramping 3).HearsStation (unit 27) [3, 2] 7 ∧ (2 : Byte).toNat ≠ ((ramping 3).station 7).step)
      ∧ ((meeting .venting (fun x => { x with aborted := true }) tested).HearsStation (unit 27) [4] 7
        ∧ ((meeting .venting (fun x => { x with aborted := true }) tested).station 7).aborted = true)
      ∧ ((testing .venting).HearsStation (unit 27) [4] 7 ∧ (testing .venting).Tests 7 127 tested
        ∧ ((testing .venting).station 7).aborted = false)
      ∧ ((testing .settling).HearsStation (unit 27) [4] 7 ∧ ((testing .settling).station 7).state ≠ .venting) := by
  decide

/-- A test in progress at station 7, the sample 255 expected. -/
def expecting (st : StState) : State := (testing st).updStation 7 fun x => { x with expected := some 255 }

theorem witness_SampleIsPassedOver :
    65535 < 65536
      ∧ (∀ st ∈ [StState.outOfService, .vacant, .releasing, .faulted, .resync],
        (line st).HearsStation (unit 27) (samplePayload 0 0 0 65535) 7 ∧ ((line st).station 7).state.inCycle = false)
      ∧ ((expecting .holding).HearsStation (unit 27) (samplePayload 127 0 0 0) 7
        ∧ ((expecting .holding).station 7).expected = some 255 ∧ ¬ ((127 : Byte) - 255).toNat < 128
        ∧ ((126 : Byte) - 255).toNat < 128)
      ∧ (let s := meeting .venting (fun x => { x with aborted := true }) tested
        s.HearsStation (unit 27) (samplePayload 0 65535 0 0) 7 ∧ s.HearsStation (unit 27) (samplePayload 0 65534 0 0) 7
          ∧ (s.station 7).state = .venting ∧ (s.station 7).aborted = true ∧ (s.station 7).expected = none) := by decide

theorem witness_SampleActsInATest :
    (∀ st ∈ [StState.seated, .ramping, .holding, .venting, .settling], ∀ x ∈ [(10, 1200, 1850), (500, 1200, 65534),
          (26250, 0, 0), (26251, 0, 0), (25000, 0, 0), (24999, 0, 0), (65535, 0, 0)],
        (testing st).HearsStation (unit 27) (samplePayload 17 x.1 x.2.1 x.2.2) 7 ∧ (testing st).Tests 7 127 tested
          ∧ ((testing st).station 7).state.inCycle = true ∧ ((testing st).station 7).aborted = false
          ∧ ((testing st).station 7).expected = none)
      ∧ ((expecting .holding).HearsStation (unit 27) (samplePayload 126 25000 0 0) 7
        ∧ ((expecting .holding).station 7).expected = some 255 ∧ 127 = ((126 : Byte) - 255).toNat ∧ 127 < 128
        ∧ 3 < min (((expecting .holding).station 7).gaps + 127) 255)
      ∧ (let w : List Sample := List.replicate 2 ⟨10, 1200, 1850⟩ ++ [⟨500, 1204, 9999⟩]
        gauge.window ≤ w.length ∧ (∀ a ∈ w, ∀ b ∈ w, a.level ≤ b.level + gauge.stabBand) ∧ 500 ≤ gauge.pt / 50
          ∧ gauge.pt + gauge.band < 26251 ∧ 26250 ≤ gauge.pt + gauge.band) := by
  refine ⟨by decide +kernel, by decide, by decide⟩

/-- A test in progress with a deadline at 100, three stable samples in its window, and an extension to 200 or none. -/
def timed (st : StState) (extension : Option Clock) (levels : List Nat) (clock : Clock) : State :=
  { (testing st).updStation 7 fun x => { x with
      deadline := some 100, extensionEnd := extension, window := levels.map fun l => ⟨25010, l, 1870⟩ } with
    clock := clock }

theorem witness_HoldEnds :
    (((testing .ramping).station 7).state ≠ .holding ∧ ((testing .holding).station 7).deadline = none)
      ∧ (∀ x ∈ [none, some (200 : Clock)], ∀ c ∈ [(99 : Clock), 100, 200],
        (timed .holding x [4646, 4650, 4650] c).Tests 7 127 tested
          ∧ ((timed .holding x [4646, 4650, 4650] c).station 7).deadline = some 100
          ∧ ((timed .holding x [4646, 4650, 4650] c).station 7).extensionEnd = x)
      ∧ (¬ ((99 : Clock) - 100).toNat < 2147483648 ∧ ((100 : Clock) - 100).toNat < 2147483648
        ∧ ((200 : Clock) - 200).toNat < 2147483648 ∧ ¬ ((199 : Clock) - 200).toNat < 2147483648)
      ∧ (∀ a ∈ [4646, 4650, 4650], ∀ b ∈ [4646, 4650, 4650], a ≤ b + gauge.stabBand)
      ∧ ¬ (∀ a ∈ [4645, 4650, 4650], ∀ b ∈ [4645, 4650, 4650], a ≤ b + gauge.stabBand)
      ∧ gauge.window ≤ 3 ∧ (timed .holding none [] 100).typeEntry tested = gauge := by
  refine ⟨by decide, fun x hx c hc => ?_, by decide, by decide, by decide, by decide, by decide⟩
  simp only [List.mem_cons, List.not_mem_nil, or_false] at hx hc
  rcases hx with rfl | rfl <;> rcases hc with rfl | rfl | rfl <;> exact ⟨by decide, by decide, by decide⟩

/-- The record of a test that has its total reading. -/
def totalled : Record :=
  { tested with result := some ⟨7, 1, 0, ⟨1200, 1850⟩, 0, some ⟨25010, 25180⟩, some ⟨4650, 1870⟩, none, none⟩ }

theorem witness_SettleEnds :
    (((testing .holding).station 7).state ≠ .settling ∧ ((testing .settling).station 7).deadline = none
        ∧ ((testing .seated).station 7).state ≠ .holding)
      ∧ (∀ x ∈ [none, some (200 : Clock)], ∀ c ∈ [(99 : Clock), 100, 200],
        let s := (timed .settling x [1520, 1520, 1524] c).putRec 127 (some totalled)
        s.Tests 7 127 totalled ∧ (s.station 7).deadline = some 100 ∧ (s.station 7).extensionEnd = x
          ∧ (s.station 7).window.getLast? = some ⟨25010, 1524, 1870⟩)
      ∧ totalled.result.bind (·.total) = some ⟨4650, 1870⟩ := by
  refine ⟨by decide, fun x hx c hc => ?_, by decide⟩
  simp only [List.mem_cons, List.not_mem_nil, or_false] at hx hc
  rcases hx with rfl | rfl <;> rcases hc with rfl | rfl | rfl <;> exact ⟨by decide, by decide, by decide, by decide⟩

theorem witness_PhaseDeadlinesExpire :
    (∀ st ∈ [StState.seated, .ramping, .venting, .releasing],
        ((timed st none [] 100).station 7).state = st ∧ ((timed st none [] 100).station 7).deadline = some 100)
      ∧ ((100 : Clock) - 100).toNat < 2147483648 ∧ ¬ ((99 : Clock) - 100).toNat < 2147483648
      ∧ (calm.station 7).deadline = none := by decide

/-! ## The witnesses: actuators -/

/-- The line with the gate OPEN, record 127 on an actuator's list behind record 0, an entry of another serial. -/
def listed (a : Actuator) (r : Record) : State :=
  { holding r with dispatch := { calm.dispatch.setList a [0, 127] with gate := .gateOpen } }

theorem holds_listed (a : Actuator) (r : Record) : (listed a r).Holds r.serial 127 r := holds_holding r

theorem witness_ArrivalAtAnActuator :
    let scrapped : Record := { cyl .scrapPending with verdict := some (.condemn .burst) }
    (∀ a ∈ [(12 : Byte), 13], ∀ p ∈ [[], List.replicate 24 0, List.replicate 26 0, tag 2012],
        calm.HearsRole (unit a) p (if a = 12 then Actuator.role .press else Actuator.role .scrapCell))
      ∧ (calm.dispatch.gate = .gateClosed ∧ (tag 2012).length = 25)
      ∧ (pressing.HearsRole (unit 12) (tag 2012) Actuator.press.role ∧ pressing.dispatch.disp .press ≠ .idle
        ∧ pressing.dispatch.disp .scrapCell = .idle)
      ∧ (((fieldOf 0x41).length = 17 ∧ serialOf (fieldOf 0x41) = some [0x41]) ∧ serialOf (List.replicate 17 0) = none)
      ∧ (let s := dispatching fun d => { d with gate := .gateOpen }
        s.dispatch.gate = .gateOpen ∧ s.dispatch.disp .press = .idle ∧ s.dispatch.markList ++ s.dispatch.scrapList = [])
      ∧ (let s := listed .press (cyl .markPending)
        s.HearsRole (unit 12) (tag 2012) Actuator.press.role ∧ s.HearsRole (unit 13) (tag 2012) Actuator.scrapCell.role
          ∧ s.Holds [0x41] 127 (cyl .markPending) ∧ s.dispatch.list .press = [0] ++ 127 :: []
          ∧ (127 : RecNo) ∉ [(0 : RecNo)] ∧ s.mgmt.calendar = some ⟨5, 2031⟩
          ∧ (127 : RecNo) ∈ s.dispatch.list Actuator.scrapCell.other
          ∧ (127 : RecNo) ∉ s.dispatch.list .scrapCell)
      ∧ (let s := listed .scrapCell scrapped
        s.HearsRole (unit 13) (tag 2012) Actuator.scrapCell.role ∧ s.Holds [0x41] 127 scrapped
          ∧ s.dispatch.list .scrapCell = [0] ++ 127 :: [] ∧ scrapped.verdict = some (.condemn .burst))
      ∧ { cyl .markPending with passedBy := 6 }.passedBy < 7 ∧ 7 ≤ { cyl .markPending with passedBy := 7 }.passedBy := by
  refine ⟨by decide, by decide, by decide, by decide, by decide, ⟨by decide, by decide, holds_listed _ _, by decide, by decide,
    by decide, by decide, by decide⟩, ⟨by decide, holds_listed _ _, by decide, by decide⟩, by decide, by decide⟩

/-- A CONDEMN in flight for record 127, AT SCRAP CELL. -/
def condemning : State :=
  { holding { cyl .atScrapCell with verdict := some (.condemn .burst) } with
    dispatch := { calm.dispatch with scrapD := .acting ⟨127, [0x41], 1, 60000⟩ } }

theorem witness_DoneAndUnconfirmed :
    (∀ b : Byte, b ∈ [1, 2, 0, 3, 255] →
        pressing.HearsRole (unit 12) (fieldOf 0x41 ++ [b]) Actuator.press.role
          ∧ condemning.HearsRole (unit 13) (fieldOf 0x41 ++ [b]) Actuator.scrapCell.role)
      ∧ (pressing.dispatch.disp .press = .acting ⟨127, [0x41], 1, 30000⟩
        ∧ condemning.dispatch.disp .scrapCell = .acting ⟨127, [0x41], 1, 60000⟩)
      ∧ pressing.getRec 127 = some { cyl .atPress with verdict := some .pass } ∧ ((fieldOf 0x41).length = 17 ∧ serialOf (fieldOf 0x41) = some [0x41])
      ∧ (pressing.HearsRole (unit 12) (List.replicate 17 0) Actuator.press.role ∧ calm.dispatch.disp .press = .idle)
      ∧ (pressing.HearsRole (unit 12) (fieldOf 0x42 ++ [1]) Actuator.press.role
        ∧ serialOf ((fieldOf 0x42 ++ [1]).take 17) ≠ some [0x41])
      ∧ (¬ ((29999 : Clock) - 30000).toNat < 2147483648 ∧ ((30000 : Clock) - 30000).toNat < 2147483648) := by
  refine ⟨by decide, by decide, by decide, by decide, by decide, by decide, by decide⟩

end Sys2Proof.Tests
end

section
/-!
PROOFS. WRITE MATCH ENTRY (R9): what `writeMatch` answers in each of its cases, and the obligation on the command.
-/

namespace Sys2Proof.Machine

/-! ## The arguments of a write to a bank (R196, R197) -/

/-- R196: the bank codes are 1 and 2. -/
theorem bankOf_eq_none {b : Byte} : bankOf b = none ↔ b ≠ 1 ∧ b ≠ 2 := by
  unfold bankOf
  split
  case isTrue h => simp [h]
  case isFalse h => split <;> simp_all

theorem indexOf_eq_none {n : Nat} {b : Byte} : indexOf n b = none ↔ n ≤ b.toNat := by
  unfold indexOf
  split <;> simp <;> omega

@[simp] theorem validMark_flagByte (v : Bool) : validMark (flagByte v) = v := by cases v <;> rfl

/-! ## A match entry's bytes (R197) -/

theorem matchEntry_bytes_length (m : MatchEntry) : m.bytes.length = 10 := by simp [MatchEntry.bytes, beBytes_two]

/-- The byte with the valid mark, behind the bank code and the index. -/
theorem byteAt_bytes_valid (a b : Byte) (m : MatchEntry) : byteAt (a :: b :: m.bytes) 2 = flagByte m.valid := rfl

/-- The byte with the type code, the last of the arguments. -/
theorem byteAt_bytes_code (a b : Byte) (m : MatchEntry) : byteAt (a :: b :: m.bytes) 11 = byteOf m.code := by
  simp [MatchEntry.bytes, beBytes_two, byteAt]

/-- R197: a valid match entry sent in its layout is read back. -/
theorem matchEntryOf_bytes (a b : Byte) {m : MatchEntry} (hv : m.valid = true) :
    matchEntryOf (a :: b :: m.bytes) m.code = m := by
  simp only [matchEntryOf, MatchEntry.bytes, beBytes_two, word16At, num16At, byteAt, List.cons_append, List.nil_append,
    List.getD_cons_zero, List.getD_cons_succ, word16_roundtrip, ← hv]

/-! ## What `writeMatch` answers, case by case (R7, R9) -/

/-- R9: a bank other than A or B, or an index outside 0..63. -/
theorem writeMatch_badIndex {args : List Byte} (s : State)
    (h : bankOf (byteAt args 0) = none ∨ indexOf 64 (byteAt args 1) = none) :
    writeMatch args s = refuseWith .badIndex s := by
  unfold writeMatch
  split
  case h_1 hk hi => simp [hk, hi] at h
  case h_2 => rfl

section named
variable {args : List Byte} {s : State} {k : BankId} {i : Fin 64}
  (hk : bankOf (byteAt args 0) = some k) (hi : indexOf 64 (byteAt args 1) = some i)
include hk hi

/-- R9: an ACTIVE or a RETIRING bank refuses the write. -/
theorem writeMatch_refused {st : Status} (hb : (s.banks.get k).state.writeRefusal = some st) :
    writeMatch args s = refuseWith st s := by
  simp [writeMatch, hk, hi, hb]

/-- R9: a valid entry with its type code outside 0..63. -/
theorem writeMatch_badCode (hb : (s.banks.get k).state = .standby) (hv : validMark (byteAt args 2) = true)
    (hc : indexOf 64 (byteAt args 11) = none) : writeMatch args s = refuseWith .badValue s := by
  simp [writeMatch, hk, hi, hb, BankState.writeRefusal, hv, hc]

/-- R9: a valid entry is written whole. -/
theorem writeMatch_valid {c : TypeCode} (hb : (s.banks.get k).state = .standby) (hv : validMark (byteAt args 2) = true)
    (hc : indexOf 64 (byteAt args 11) = some c) :
    writeMatch args s = doneWith [] (s.setBank k ((s.banks.get k).putMatch i (matchEntryOf args c))) := by
  simp [writeMatch, hk, hi, hb, BankState.writeRefusal, hv, hc]

/-- R7: an entry offered with its valid mark clear clears the entry, its other fields not examined. -/
theorem writeMatch_clear (hb : (s.banks.get k).state = .standby) (hv : validMark (byteAt args 2) = false) :
    writeMatch args s = doneWith [] (s.setBank k ((s.banks.get k).putMatch i MatchEntry.invalid)) := by
  simp [writeMatch, hk, hi, hb, BankState.writeRefusal, hv]

end named

/-! ## The command -/

/-- WRITE MATCH ENTRY served: the answer of `writeMatch` in the state `heard` is sent. -/
theorem exec_writeMatchEntry {s t : State} {h : Hdr} {tag : Byte} {args results : List Byte} {st : Status}
    (hs : s.Serves h (tag :: 4 :: args)) (hl : args.length = 12) (ha : writeMatch args (s.heard h) = ⟨st, results, t⟩) :
    exec (.writeMatchEntry h tag args) s = .next (s.served h tag 4 args st results t) :=
  congrArg _ (serves_to hs 12 rfl hl (by decide) _ ha)

/-- A bank written in the state `heard`, as an update of the banks before the frame. -/
theorem heard_setBank (h : Hdr) (s : State) (k : BankId) (x : Bank) :
    (s.heard h).setBank k x = { s.heard h with banks := s.banks.set k x } := by
  simp [State.setBank, State.updBanks]

/-- Settles O27: each clause is one case of `writeMatch`, chosen by the bank and index bytes, the bank's state, the valid
mark and the type code. -/
theorem matchEntryIsWritten : Obligations.MatchEntryIsWritten := by
  intro s h tag k i m b stored answer
  have hi : indexOf 64 (byteOf i) = some i := indexOf_byteOf i (by decide)
  refine ⟨fun hs => ?_, fun x y hx hy hb => ?_, fun x y hxy hs => ?_⟩
  · intro args
    have hl : args.length = 12 := by simp [args, matchEntry_bytes_length]
    have hk : bankOf (byteAt args 0) = some k := bankOf_code k
    have hm : validMark (byteAt args 2) = m.valid := by simp [args, byteAt_bytes_valid]
    have hc : indexOf 64 (byteAt args 11) = some m.code := by
      rw [byteAt_bytes_code, indexOf_byteOf m.code (by decide)]
    have hbank : (s.heard h).banks.get k = b := by rw [heard_banks]
    have refused (st : Status) (hr : b.state.writeRefusal = some st) : answer args st (s.heard h) :=
      exec_writeMatchEntry hs hl (writeMatch_refused hk hi (by rw [hbank, hr]))
    refine ⟨fun hb => ?active, fun hb => ?retiring, fun hb hv => ?valid, fun hb hv => ?clear⟩
    case active => exact refused .wrongBank (by rw [hb]; rfl)
    case retiring => exact refused .busy (by rw [hb]; rfl)
    case valid =>
      have hw := writeMatch_valid hk hi (hbank ▸ hb) (hm.trans hv) hc
      rw [matchEntryOf_bytes _ _ hv, heard_setBank, hbank] at hw
      exact exec_writeMatchEntry hs hl hw
    case clear =>
      have hw := writeMatch_clear hk hi (hbank ▸ hb) (hm.trans hv)
      rw [heard_setBank, hbank] at hw
      exact exec_writeMatchEntry hs hl hw
  · intro args hs
    have hcode : byteAt args 11 = y := calc
      byteAt args 11 = byteAt (x ++ [y]) 8 := rfl
      _ = byteAt [y] (8 - x.length) := byteAt_append_right x [y] 8 hx.le
      _ = y := by rw [hx]; rfl
    have hc : indexOf 64 (byteAt args 11) = none := by rwa [hcode, indexOf_eq_none]
    exact exec_writeMatchEntry hs (by simp [args, hx])
      (writeMatch_badCode (bankOf_code k) hi (by rw [heard_banks]; exact hb) rfl hc)
  · exact exec_writeMatchEntry hs (by simp [matchEntry_bytes_length])
      (writeMatch_badIndex _ (hxy.imp bankOf_eq_none.mpr indexOf_eq_none.mpr))

end Sys2Proof.Machine
end

section
/-!
PROOFS. The weight check (R53): its table as an equation per row, the range of the loss, and what a FINDING that carries a
measured tare writes.
-/

namespace Sys2Proof.Machine

/-! ## The rows of the table -/

theorem weightCheck_noTag (measured limit : Nat) : weightCheck none measured limit = .noTagTare := rfl

theorem weightCheck_of_le {tag measured : Nat} (limit : Nat) (h : tag ≤ measured) :
    weightCheck (some tag) measured limit = .ok := if_pos h

/-- A tare below the tag tare, under no limit. -/
theorem weightCheck_unlimited {tag measured : Nat} (h : measured < tag) : weightCheck (some tag) measured 0 = .ok := by
  simp [weightCheck, h.not_ge]

/-- A tare below the tag tare, under a limit: the loss decides. -/
theorem weightCheck_limited {tag measured limit : Nat} (h : measured < tag) (hl : limit ≠ 0) :
    weightCheck (some tag) measured limit = if limit < (tag - measured) * 1000 / tag then .loss else .ok := by
  simp [weightCheck, h.not_ge, hl]

/-! ## The loss and the FINDING -/

/-- The range of the loss: a measured tare of at least 1 keeps it below the whole. -/
theorem tareLoss_le {tag measured : Nat} (ht : 1 ≤ tag) (hm : 1 ≤ measured) : (tag - measured) * 1000 / tag ≤ 999 := by
  have hlt : (tag - measured) * 1000 < 1000 * tag := by omega
  exact Nat.le_of_lt_succ ((Nat.div_lt_iff_lt_mul ht).mpr hlt)

/-- R51, step 3: a FINDING with a measured tare writes it, and the weight check under the record's own tag tare. -/
theorem applyFinding_measured {f : FindingFields} {measured : Nat} (limit : Nat) (r : Record) (h : f.tare = some measured) :
    (applyFinding f limit r).weight = weightCheck r.tagTare measured limit
      ∧ (applyFinding f limit r).measuredTare = some measured := by
  simp [applyFinding, h]

/-- Settles O41: one lemma per row of the table, the last two rows by the side of the limit the loss lies on. -/
theorem weightCheckByTheTable : Obligations.WeightCheckByTheTable := by
  intro tag measured limit ht _ hm _ loss
  refine ⟨weightCheck_noTag measured limit, weightCheck_of_le limit, fun h hl => ?unlimited, fun h hl hloss => ?loss,
    fun h hl hloss => ?within, tareLoss_le ht hm, fun _ r hf => applyFinding_measured limit r hf⟩
  case unlimited => rw [hl, weightCheck_unlimited h]
  case loss => rw [weightCheck_limited h hl, if_pos hloss]
  case within => rw [weightCheck_limited h hl, if_neg hloss.not_gt]

end Sys2Proof.Machine
end

section
/-!
PROOFS. The correction for temperature (R114): its sign and its magnitude, each said once, and the figures of the
Expansion Calculator that take it (R115, R116).
-/

namespace Sys2Proof.Machine

/-! ## Rounding to a whole number (R114) -/

/-- Halves up: the rounded quotient by 256 is at most a half away, and above the quotient where it is a half away. -/
theorem nearest_quotient (m : Nat) :
    (256 * ((m + 128) / 256 : Nat) - m : Int).natAbs ≤ 128
      ∧ ((256 * ((m + 128) / 256 : Nat) - m : Int).natAbs = 128 → m < 256 * ((m + 128) / 256)) := by omega

/-! ## The correction: a sign and a magnitude -/

/-- The sign of ΔT by the rounded magnitude; a ΔT of 0 has the magnitude 0, so that its sign may be 0. -/
theorem correction_eq_sign_mul (k : Nat) (dT : Int) :
    correction k dT = dT.sign * ((k * dT.natAbs + 128) / 256 : Nat) := by
  rcases lt_trichotomy dT 0 with h | rfl | h
  · rw [Int.sign_eq_neg_one_of_neg h, neg_one_mul]; exact if_pos h
  · simp [correction]
  · rw [Int.sign_eq_one_of_pos h, one_mul]; exact if_neg h.not_gt

@[simp] theorem correction_zero_right (k : Nat) : correction k 0 = 0 := by simp [correction_eq_sign_mul]

@[simp] theorem correction_zero_left (dT : Int) : correction 0 dT = 0 := by simp [correction_eq_sign_mul]

/-- A fall in temperature corrects by as much as the same rise, the other way. -/
theorem correction_neg (k : Nat) (dT : Int) : correction k (-dT) = -correction k dT := by
  simp [correction_eq_sign_mul]

theorem correction_natAbs (k : Nat) (dT : Int) : (correction k dT).natAbs = (k * dT.natAbs + 128) / 256 := by
  obtain rfl | h := eq_or_ne dT 0
  · simp
  · rw [correction_eq_sign_mul, Int.natAbs_mul, Int.natAbs_sign_of_ne_zero h, one_mul, Int.natAbs_natCast]

/-- The correction is 0 or has ΔT's sign. -/
theorem correction_mul_nonneg (k : Nat) (dT : Int) : 0 ≤ correction k dT * dT := by
  have h : correction k dT * dT = ((k * dT.natAbs + 128) / 256 : Nat) * |dT| := by
    rw [correction_eq_sign_mul, mul_right_comm, Int.sign_mul_self, Int.natCast_natAbs, mul_comm]
  rw [h]
  positivity

/-- The sign taken out: the correction is as far from the quotient as the magnitude from the quotient's magnitude. -/
theorem correction_distance (k : Nat) (dT : Int) :
    (256 * correction k dT - k * dT).natAbs
      = (256 * ((k * dT.natAbs + 128) / 256 : Nat) - (k * dT.natAbs : Nat) : Int).natAbs := by
  obtain rfl | h := eq_or_ne dT 0
  · simp
  · have hsign : 256 * correction k dT - k * dT
        = dT.sign * (256 * ((k * dT.natAbs + 128) / 256 : Nat) - (k * dT.natAbs : Nat)) := calc
      _ = 256 * (dT.sign * ((k * dT.natAbs + 128) / 256 : Nat)) - k * (dT.sign * dT.natAbs) := by
        rw [Int.sign_mul_natAbs, correction_eq_sign_mul]
      _ = _ := by push_cast; ring
    rw [hsign, Int.natAbs_mul, Int.natAbs_sign_of_ne_zero h, one_mul]

/-- The range of the product: 4095 × 9999. -/
theorem product_natAbs_le {k : Nat} {dT : Int} (hk : k ≤ 4095) (hT : dT.natAbs ≤ 9999) : k * dT.natAbs ≤ 40945905 :=
  Nat.mul_le_mul hk hT

/-! ## The figures that take the correction (R115, R116) -/

/-- R115: a total of 0 or less, and nothing more formed. -/
theorem expansionOf_of_le {k : Nat} {zero total : Reading} (h : correctedRise k zero total ≤ 0) (settled : Reading) :
    expansionOf k zero total settled = ⟨correctedRise k zero total, ⟨false, false⟩, none⟩ := if_pos h

/-- A total of 1 or more, with the permanent figures of the two corrected rises. -/
theorem expansionOf_of_pos {k : Nat} {zero total : Reading} (h : 0 < correctedRise k zero total) (settled : Reading) :
    let p := permanentOf (correctedRise k zero total) (correctedRise k zero settled)
    expansionOf k zero total settled = ⟨correctedRise k zero total, p.1, some p.2⟩ := if_neg h.not_ge

theorem expansionOf_et (k : Nat) (zero total settled : Reading) :
    (expansionOf k zero total settled).et = correctedRise k zero total := by
  rcases le_or_gt (correctedRise k zero total) 0 with h | h
  · rw [expansionOf_of_le h]
  · rw [expansionOf_of_pos h]

/-- The permanent figures, where they are formed, are those of the two corrected rises. -/
theorem eq_permanentOf {k : Nat} {zero total settled : Reading} {p : Permanent}
    (hp : (expansionOf k zero total settled).perm = some p) :
    p = (permanentOf (correctedRise k zero total) (correctedRise k zero settled)).2 := by
  rcases le_or_gt (correctedRise k zero total) 0 with h | h
  · rw [expansionOf_of_le h] at hp; cases hp
  · rw [expansionOf_of_pos h] at hp; exact (Option.some.inj hp).symm

/-- R116: the raw permanent is brought within 0 and the total. -/
theorem permanentOf_ep (et raw : Int) : ((permanentOf et raw).2.ep : Int) = max 0 (min et raw) := by
  have hep : ((permanentOf et raw).2.ep : Int) = max (if raw < 0 then 0 else if et < raw then et else raw) 0 :=
    Int.ofNat_toNat _
  rw [hep]
  split_ifs <;> omega

/-- Settles O44: the sign is taken out of the correction, and its magnitude is a rounded quotient of whole numbers; ΔT
enters the figures through the corrected rises alone. -/
theorem correctionIsTheNearestWhole : Obligations.CorrectionIsTheNearestWhole := by
  intro k dT hk hlo hhi c product
  have hprod : product.natAbs = k * dT.natAbs := by simp [product, Int.natAbs_mul]
  have hc : c.natAbs = (product.natAbs + 128) / 256 := hprod ▸ correction_natAbs k dT
  have hbound : product.natAbs ≤ 40945905 := hprod ▸ product_natAbs_le hk (by omega)
  have hdist : (256 * c - product).natAbs
      = (256 * ((product.natAbs + 128) / 256 : Nat) - product.natAbs : Int).natAbs := hprod ▸ correction_distance k dT
  obtain ⟨hnear, hhalf⟩ := nearest_quotient product.natAbs
  refine ⟨hdist ▸ hnear, fun h => ?half, hc, hbound, correction_mul_nonneg k dT, by omega, correction_zero_left dT,
    correction_zero_right k, correction_neg k dT, fun zero total settled hz ht hs => ?figures⟩
  case half => rw [hc]; exact hhalf (hdist ▸ h)
  case figures =>
    intro forTotal forPermanent raw x
    refine ⟨by omega, by omega, expansionOf_et k zero total settled, fun p hp => ?_⟩
    rw [expansionOf_et, eq_permanentOf hp]
    exact permanentOf_ep _ _

end Sys2Proof.Machine
end

section
/-!
PROOFS. The verdict order (R120): the row of a condemn finding, the rows of a test that ended without a capture, and the
rows at a settle capture.
-/

namespace Sys2Proof.Machine

/-! ## The findings (R47) -/

theorem condemnFound_iff {e : TypeEntry} {r : Record} : condemnFound e r = true ↔ r.findings &&& e.condemnMask ≠ 0 :=
  bne_iff_ne

theorem holdFound_iff {e : TypeEntry} {r : Record} :
    holdFound e r = true ↔ r.findings &&& e.holdMask &&& ~~~e.condemnMask ≠ 0 := bne_iff_ne

/-! ## The rows ahead of the figures -/

/-- Row 1, ahead of every end. -/
theorem verdictOrder_of_found {e : TypeEntry} {r : Record} (h : condemnFound e r = true) (how : TestEnd) :
    verdictOrder e r how = .condemn .finding := if_pos h

section noCondemn
variable {e : TypeEntry} {r : Record} (h : ¬ condemnFound e r = true)
include h

/-- Row 2, at the first of its ends. -/
theorem verdictOrder_burst : verdictOrder e r .burst = .condemn .burst := if_neg h

/-- Row 2, at the second of its ends. -/
theorem verdictOrder_overpressure : verdictOrder e r .overpressure = .condemn .overpressure := if_neg h

/-- Row 3. -/
theorem verdictOrder_retest (why : Reason) : verdictOrder e r (.retest why) = .retest why := if_neg h

/-- Rows 4 to 9 stand in `capturedVerdict`. -/
theorem verdictOrder_captured (x : Expansion) : verdictOrder e r (.captured x) = capturedVerdict e r x := if_neg h

end noCondemn

/-! ## The rows of a settle capture -/

section captured
variable {e : TypeEntry} {r : Record} {x : Expansion}

/-- Row 4. -/
theorem capturedVerdict_noExpansion (h4 : x.et ≤ 0) : capturedVerdict e r x = .retest .noExpansion := if_pos h4

/-- Row 5. -/
theorem capturedVerdict_elastic (h4 : 0 < x.et) (h5 : (e.ree : Int) < x.et) :
    capturedVerdict e r x = .condemn .elastic := by
  rw [capturedVerdict, if_neg h4.not_ge, if_pos h5]

/-- Row 6. -/
theorem capturedVerdict_permanent (h4 : 0 < x.et) (h5 : ¬ (e.ree : Int) < x.et)
    (h6 : e.permLimit < (x.perm.map (·.ratio)).getD 0) : capturedVerdict e r x = .condemn .permanent := by
  rw [capturedVerdict, if_neg h4.not_ge, if_neg h5, if_pos h6]

variable (h4 : 0 < x.et) (h5 : ¬ (e.ree : Int) < x.et) (h6 : ¬ e.permLimit < (x.perm.map (·.ratio)).getD 0)
include h4 h5 h6

/-- Row 7. -/
theorem capturedVerdict_hold (h7 : holdFound e r ∨ (r.weight = .noTagTare ∧ e.tareLossLimit ≠ 0)) :
    capturedVerdict e r x = .hold .finding := by
  rw [capturedVerdict, if_neg h4.not_ge, if_neg h5, if_neg h6, if_pos h7]

/-- Rows 8 and 9: with the figures within their limits and nothing to hold the cylinder for, the weight decides. -/
theorem capturedVerdict_byWeight (h7 : ¬ (holdFound e r ∨ (r.weight = .noTagTare ∧ e.tareLossLimit ≠ 0))) :
    capturedVerdict e r x = if r.weight = .loss then .condemn .weightLoss else .pass := by
  rw [capturedVerdict, if_neg h4.not_ge, if_neg h5, if_neg h6, if_neg h7]

end captured

/-- Settles O46: row by row, each under the negations of the rows before it. -/
theorem verdictOrderRows : Obligations.VerdictOrderRows := by
  intro e r x why found ratio five six seven
  have hfound : condemnFound e r = true ↔ found := condemnFound_iff
  have hseven : (holdFound e r ∨ (r.weight = .noTagTare ∧ e.tareLossLimit ≠ 0)) ↔ seven := or_congr_left holdFound_iff
  have captured (h1 : ¬ found) : verdictOrder e r (.captured x) = capturedVerdict e r x :=
    verdictOrder_captured (mt hfound.mp h1) x
  refine ⟨fun h1 => verdictOrder_of_found (hfound.mpr h1), fun h1 => ?ends, fun h1 => ?retest, fun h1 h4 => ?noExpansion,
    fun h1 h4 h5 => ?elastic, fun h1 h4 h5 h6 => ?permanent, fun h1 h4 h5 h6 h7 => ?hold, fun h1 h4 h5 h6 h7 h8 => ?loss,
    fun h1 h4 h5 h6 h7 h8 => ?pass⟩
  case ends => exact ⟨verdictOrder_burst (mt hfound.mp h1), verdictOrder_overpressure (mt hfound.mp h1)⟩
  case retest => exact verdictOrder_retest (mt hfound.mp h1) why
  case noExpansion => rw [captured h1, capturedVerdict_noExpansion h4]
  case elastic => rw [captured h1, capturedVerdict_elastic h4 h5]
  case permanent => rw [captured h1, capturedVerdict_permanent h4 h5 h6]
  case hold => rw [captured h1, capturedVerdict_hold h4 h5 h6 (hseven.mpr h7)]
  case loss => rw [captured h1, capturedVerdict_byWeight h4 h5 h6 (mt hseven.mp h7), if_pos h8]
  case pass => rw [captured h1, capturedVerdict_byWeight h4 h5 h6 (mt hseven.mp h7), if_neg h8]

end Sys2Proof.Machine
end

section
/-!
PROOFS. A verdict applied (R27): the state it leaves as one update of the banks, the record and the Dispatch Unit, and that
update for each way a verdict disposes of its record (R124, R125, R128, R136, R137).
-/

namespace Sys2Proof.Machine

/-! ## What names an actuator and a record's state (R25, R29, R134) -/

theorem addrOf_isSome_iff (s : State) (r : Role) : (s.addrOf r).isSome = true ↔ ∃ i : Fin 62, s.roles[i] = r := by
  simp [State.addrOf]

theorem online_iff (s : State) (a : Actuator) :
    s.online a = true ↔ (∃ i : Fin 62, s.roles[i] = a.role) ∧ s.dispatch.offline a = false := by
  rw [← addrOf_isSome_iff]; simp [State.online]

theorem references_iff (st : RecState) :
    st.references = true ↔ st ∈ [RecState.identified, .inspected, .onTest, .retestWait] := by
  cases st <;> decide

theorem isClosed_iff (st : RecState) : st.isClosed = true ↔ st ∈ [RecState.marked, .scrapped, .lost] := by
  cases st <;> decide

/-! ## The update that a verdict makes -/

/-- R14, R18: the banks with a record's reference, where it has one, released. -/
def TypeBanks.dropRef (t : TypeBanks) : Option BankRef → TypeBanks
  | none => t
  | some b => t.set b.bank (t.get b.bank).release

/-- R137: the Dispatch Unit with a record's lane order placed, where the Route FIFO has room. -/
def DispatchUnit.order (d : DispatchUnit) (n : RecNo) (r : Record) (lane : Lane) : DispatchUnit :=
  if d.routes.length < 4 then { d with routes := d.routes ++ [⟨r.serial, lane, some (n, r.openSeq)⟩] } else d

/-- The record, the banks and the Dispatch Unit as a verdict leaves them, the rest of the state as it was. -/
def State.disposed (n : RecNo) (r : Record) (k : TypeBanks) (d : DispatchUnit) (s : State) : State :=
  { s.putRec n (some r) with banks := k, dispatch := d }

/-- R28, R128: the record in HOLD without a bank, its reference released and a HOLD order placed. -/
def State.heldFor (n : RecNo) (r : Record) (why : HoldReason) (s : State) : State :=
  s.disposed n { r with bank := none, state := .hold, holdReason := some why } (s.banks.dropRef r.bank)
    (s.dispatch.order n r .hold)

/-- A held record, the banks and the Dispatch Unit rewritten as they are. -/
theorem disposed_self {s : State} {n : RecNo} {r : Record} (h : s.getRec n = some r) :
    s.disposed n r s.banks s.dispatch = s := putRec_self s n _ h

section disposed
variable (s : State) (n : RecNo) (r : Record) (k : TypeBanks) (d : DispatchUnit)

@[simp] theorem getRec_disposed : (s.disposed n r k d).getRec n = some r := getRec_putRec_self s n (some r)

@[simp] theorem disposed_dispatch : (s.disposed n r k d).dispatch = d := rfl

/-- The number's former content is overwritten. -/
@[simp] theorem disposed_putRec (q : Option Record) : (s.putRec n q).disposed n r k d = s.disposed n r k d := by
  simp [State.disposed]

/-- Neither the record nor the banks tell whether an actuator is online. -/
@[simp] theorem online_disposed (a : Actuator) : (s.disposed n r k s.dispatch).online a = s.online a := rfl

theorem putRec_disposed (q : Record) : (s.disposed n r k d).putRec n (some q) = s.disposed n q k d := by
  simp [State.disposed, State.putRec, State.updRecords]

theorem updDispatch_disposed (f : DispatchUnit → DispatchUnit) :
    (s.disposed n r k d).updDispatch f = s.disposed n r k (f d) := rfl

theorem modRec_disposed (f : Record → Record) : (s.disposed n r k d).modRec n f = s.disposed n (f r) k d := by
  rw [modRec_some (getRec_disposed ..), putRec_disposed]

theorem routeRec_disposed (lane : Lane) :
    (s.disposed n r k d).routeRec n lane = s.disposed n r k (d.order n r lane) := by
  rw [State.routeRec, getRec_disposed]; rfl

end disposed

/-! ## The reference and the HOLD (R14, R28) -/

section held
variable {s : State} {n : RecNo} {r : Record} (h : s.getRec n = some r)
include h

/-- R128: the reference is released and the bank absent; a record without a bank stays as it is. -/
theorem releaseRef_of :
    s.releaseRef n = s.disposed n { r with bank := none } (s.banks.dropRef r.bank) s.dispatch := by
  cases hb : r.bank with
  | none =>
    have hr : { r with bank := none } = r := by rw [← hb]
    calc s.releaseRef n = s := by simp [State.releaseRef, h, hb]
      _ = s.disposed n r s.banks s.dispatch := (disposed_self h).symm
      _ = _ := by rw [hr]; rfl
  | some b =>
    let t := s.updBanks fun k => k.set b.bank (k.get b.bank).release
    have ht : t.getRec n = some r := h
    calc s.releaseRef n = t.modRec n fun r => { r with bank := none } := by simp [State.releaseRef, h, hb, t]
      _ = t.putRec n (some { r with bank := none }) := modRec_some ht _
      _ = _ := rfl

/-- The three steps of every HOLD that a verdict ends in are one update. -/
theorem hold_released (why : HoldReason) :
    ((s.releaseRef n).holdRec n why).routeRec n .hold = s.heldFor n r why := by
  rw [releaseRef_of h, State.holdRec, modRec_disposed, routeRec_disposed]; rfl

/-! ## An actuator's list (R136) -/

theorem append_full {a : Actuator} (hl : 32 ≤ (s.dispatch.list a).length) :
    (s.releaseRef n).appendList a n = s.heldFor n r .listFull := by
  rw [← hold_released h, releaseRef_of h, State.appendList, disposed_dispatch, if_pos hl]

theorem append_offline {a : Actuator} (hl : (s.dispatch.list a).length < 32) (ho : s.online a = false) :
    (s.releaseRef n).appendList a n = s.heldFor n r a.offlineReason := by
  rw [← hold_released h, releaseRef_of h, State.appendList, disposed_dispatch, if_neg hl.not_ge, online_disposed,
    if_pos ho]

theorem append_unconfirmed {a : Actuator} (hl : (s.dispatch.list a).length < 32) (ho : s.online a = true)
    (hr : ¬ s.dispatch.routes.length < 4) : (s.releaseRef n).appendList a n = s.heldFor n r .routeUnconfirmed := by
  rw [← hold_released h, releaseRef_of h, State.appendList, disposed_dispatch, if_neg hl.not_ge, online_disposed,
    if_neg (by simp [ho]), if_pos (not_lt.mp hr)]

theorem append_listed {a : Actuator} (hl : (s.dispatch.list a).length < 32) (ho : s.online a = true)
    (hr : s.dispatch.routes.length < 4) : (s.releaseRef n).appendList a n
      = s.disposed n { r with bank := none, state := a.pendingState, passedBy := 0 } (s.banks.dropRef r.bank)
        ((s.dispatch.setList a (s.dispatch.list a ++ [n])).order n r a.lane) := by
  rw [releaseRef_of h, State.appendList, disposed_dispatch, if_neg hl.not_ge, online_disposed, if_neg (by simp [ho]),
    if_neg hr.not_ge, updDispatch_disposed, modRec_disposed, routeRec_disposed]
  rfl

/-! ## A RETEST (R124, R125) -/

theorem retestRec_budget (hb : 0 < r.retestsLeft) : s.retestRec n
    = s.disposed n { r with state := .retestWait, retestsLeft := r.retestsLeft - 1 } s.banks
      (s.dispatch.order n r .test) := by
  let f (r : Record) : Record := { r with state := .retestWait, retestsLeft := r.retestsLeft - 1 }
  calc s.retestRec n = (s.modRec n f).routeRec n .test := by simp [State.retestRec, h, hb, f]
    _ = ((s.disposed n r s.banks s.dispatch).modRec n f).routeRec n .test := by rw [disposed_self h]
    _ = _ := by rw [modRec_disposed, routeRec_disposed]; rfl

theorem retestRec_spent (hb : r.retestsLeft = 0) : s.retestRec n = s.heldFor n r .retestsExhausted := by
  rw [← hold_released h]; simp [State.retestRec, h, hb]

/-! ## The whole verdict (R27) -/

/-- The notice and the tally follow whatever the disposal leaves of the record. -/
theorem giveVerdict_of_dispose {v : Verdict} {x : Record} {k : TypeBanks} {d : DispatchUnit} (figures : Bool)
    (hd : (s.putRec n (some { r with verdict := some v, seatedFrom := none })).disposeRec n v = s.disposed n x k d) :
    s.giveVerdict n v figures
      = ((s.disposed n x k d).offerNotice (verdictNotice n v figures x)).tally v.tally := by
  simp [State.giveVerdict, h, modRec_some h, hd]

end held

/-- Settles O47: the maps in turn, then each way to dispose of the record with its verdict written (`w` below), the
notice and the tally following from `giveVerdict_of_dispose`. -/
theorem verdictIsApplied : Obligations.VerdictIsApplied := by
  refine ⟨fun d l => ⟨rfl, rfl⟩, fun s => ⟨online_iff s .press, online_iff s .scrapCell⟩, rfl, rfl, rfl, fun _ => rfl,
    fun st => ⟨references_iff st, isClosed_iff st⟩, fun s n r v figures h => ?_⟩
  intro q free freed room routed after held onto
  let w := s.putRec n (some q)
  have hw : w.getRec n = some q := getRec_putRec_self ..
  have gives {x : Record} {k : TypeBanks} {d : DispatchUnit} (hd : w.disposeRec n v = w.disposed n x k d)
      (hs : x.serial = r.serial) (hx : x.result = r.result) : s.giveVerdict n v figures = after x k d := by
    rw [giveVerdict_of_dispose h figures (hd.trans (disposed_putRec ..)), verdictNotice, hs, hx]; rfl
  have holds {why : HoldReason} (hd : w.disposeRec n v = w.heldFor n q why) : s.giveVerdict n v figures = held why :=
    gives hd rfl rfl
  have goesOnto (a : Actuator) (hv : w.disposeRec n v = (w.releaseRef n).appendList a n) :
      onto a (s.giveVerdict n v figures) :=
    ⟨fun hl => holds (hv.trans (append_full hw hl)),
      fun hl ho => holds (hv.trans (append_offline hw hl ho)),
      fun hl ho hr => holds (hv.trans (append_unconfirmed hw hl ho hr)),
      fun hl ho hr => gives (hv.trans (append_listed hw hl ho hr)) rfl rfl⟩
  refine ⟨?pass, ?condemn, ?hold, ?retest, ?spent⟩
  case pass => rintro rfl; exact goesOnto .press rfl
  case condemn => rintro why rfl; exact goesOnto .scrapCell rfl
  case hold => rintro why rfl; exact holds (hold_released hw _)
  case retest => rintro why rfl hb; exact gives (retestRec_budget hw hb) rfl rfl
  case spent => rintro why rfl hb; exact holds (retestRec_spent hw hb)

end Sys2Proof.Machine
end

section
/-!
PROOFS. READ TALLIES (R183): the bytes of each group (R199), what `readTallies` answers in each of its cases, and the
obligation on the two commands, the one that keeps the tallies and the one that clears them.
-/

namespace Sys2Proof.Machine

/-! ## The bytes of a group (R199) -/

theorem tallyBytes_group1 (t : Tallies) : tallyBytes t.group1 = beBytes 4 t.received ++ beBytes 4 t.checkFailures
    ++ beBytes 4 t.overruns ++ beBytes 4 t.notTaken ++ beBytes 4 t.ignored ++ beBytes 4 t.clashes
    ++ beBytes 4 t.lateFindings := by
  simp [tallyBytes, Tallies.group1]

theorem tallyBytes_group2 (t : Tallies) : tallyBytes t.group2 = beBytes 4 t.pass ++ beBytes 4 t.condemn
    ++ beBytes 4 t.retest ++ beBytes 4 t.hold ++ beBytes 4 t.lost ++ beBytes 4 t.dropped ++ beBytes 4 t.noSpace := by
  simp [tallyBytes, Tallies.group2]

/-! ## What `readTallies` answers, case by case (R183) -/

section answers
variable (s : State)

theorem readTallies_group1 : readTallies [0, 1] s = doneWith (tallyBytes s.mgmt.tallies.group1) s := rfl

theorem readTallies_group2 : readTallies [0, 2] s = doneWith (tallyBytes s.mgmt.tallies.group2) s := rfl

/-- R183: the values are those before the clear. -/
theorem readTallies_clear1 : readTallies [1, 1] s = doneWith (tallyBytes s.mgmt.tallies.group1)
    { s with mgmt := { s.mgmt with tallies := s.mgmt.tallies.clear1 } } := rfl

/-- R183: the values are those before the clear. -/
theorem readTallies_clear2 : readTallies [1, 2] s = doneWith (tallyBytes s.mgmt.tallies.group2)
    { s with mgmt := { s.mgmt with tallies := s.mgmt.tallies.clear2 } } := rfl

/-- A group other than 1 and 2 is refused, whatever the action. -/
theorem readTallies_unknownGroup (action : Byte) {g : Byte} (h1 : g ≠ 1) (h2 : g ≠ 2) :
    readTallies [action, g] s = refuseWith .badValue s := by
  have hg : (byteAt [action, g] 1).toNat = g.toNat := rfl
  have hn1 : g.toNat ≠ 1 := fun e => h1 (BitVec.eq_of_toNat_eq e)
  have hn2 : g.toNat ≠ 2 := fun e => h2 (BitVec.eq_of_toNat_eq e)
  rw [readTallies, hg]
  split
  case h_1 e => exact absurd e hn1
  case h_2 e => exact absurd e hn2
  case h_3 e => exact absurd e hn1
  case h_4 e => exact absurd e hn2
  case h_5 => rfl

end answers

/-! ## The two commands -/

section served
variable {s t : State} {h : Hdr} {tag g : Byte} {results : List Byte} {st : Status}

/-- READ TALLIES that keeps: the answer of `readTallies` in the state `heard` is sent. -/
theorem exec_readTallies (hs : s.Serves h [tag, 19, 0, g]) (ha : readTallies [0, g] (s.heard h) = ⟨st, results, t⟩) :
    exec (.readTallies h tag g) s = .next (s.served h tag 19 [0, g] st results t) :=
  congrArg _ (serves_to hs 2 rfl rfl (by decide) _ ha)

/-- READ TALLIES that clears: the answer of `readTallies` in the state `heard` is sent. -/
theorem exec_clearingReadOfTallies (hs : s.Serves h [tag, 19, 1, g])
    (ha : readTallies [1, g] (s.heard h) = ⟨st, results, t⟩) :
    exec (.clearingReadOfTallies h tag g) s = .next (s.served h tag 19 [1, g] st results t) :=
  congrArg _ (serves_to hs 2 rfl rfl (by decide) _ ha)

end served

/-- Settles O23: each clause is one case of `readTallies`, chosen by the action and the group; it is computed in the state
`heard`, which has counted the request's own frame. -/
theorem talliesAreReadAndCleared : Obligations.TalliesAreReadAndCleared := by
  intro s h tag g t one two cleared
  have hone : tallyBytes t.group1 = one := tallyBytes_group1 t
  have htwo : tallyBytes t.group2 = two := tallyBytes_group2 t
  refine ⟨fun hs => ?keep1, fun hs => ?keep2, fun hs => ?clear1, fun hs => ?clear2,
    fun h1 h2 => ⟨fun hs => ?unknownKept, fun hs => ?unknownCleared⟩⟩
  case keep1 => rw [← hone]; exact exec_readTallies hs (readTallies_group1 _)
  case keep2 => rw [← htwo]; exact exec_readTallies hs (readTallies_group2 _)
  case clear1 => rw [← hone]; exact exec_clearingReadOfTallies hs (readTallies_clear1 _)
  case clear2 => rw [← htwo]; exact exec_clearingReadOfTallies hs (readTallies_clear2 _)
  case unknownKept => exact exec_readTallies hs (readTallies_unknownGroup _ 0 h1 h2)
  case unknownCleared => exact exec_clearingReadOfTallies hs (readTallies_unknownGroup _ 1 h1 h2)

end Sys2Proof.Machine
end


section
/-!
PROOFS. What one step can do, said once: each command is one of a few events, whatever frame it carries. The laws of lasting
state are each shown of these events.
-/

namespace Sys2Proof.Machine

/-- The events of the part: what a command does to the state, the 43 commands that are frames being one event, the arrival
of a frame. -/
inductive State.Event (s : State) : State → Prop
  | restarts : s.Event s.restart
  | begins : s.Event s.beginArrival
  | active : s.Event s.active
  | arrives (f : Option Frame) : s.Event (s.arrive f)
  | returns (seq : Byte) : s.Event (s.returnExpiry seq).endEvent
  | arbitrates : s.Event s.arbitrate
  | sends : s.Event (s.updPort (·.sent s.clock))
  | forwards : s.Event (s.updPort RingPort.forwarded)
  | loses : s.Event (if s.lineSilent then s.lose else s)
  | writes : s.Event s.writeComplete
  | scans : s.Event (if s.clock.toNat % 1024 = 512 then s.scan else s)
  | zeroExpires (i : StationNo) : s.Event (s.zeroExpiry i).endEvent
  | stepExpires (i : StationNo) : s.Event (s.stepExpiry i).endEvent
  | holdExpires (i : StationNo) : s.Event (s.phaseEndExpiry i .holding).endEvent
  | settleExpires (i : StationNo) : s.Event (s.phaseEndExpiry i .settling).endEvent
  | checks (i : StationNo) : s.Event (s.extensionExpiry i).endEvent
  | ventExpires (i : StationNo) : s.Event (s.ventExpiry i).endEvent
  | releaseExpires (i : StationNo) : s.Event (s.releaseExpiry i).endEvent
  | actExpires (a : Actuator) : s.Event (s.actExpiry a)

/-- Every command is one of the events. -/
theorem exec_event {c : Instr} {s t : State} (h : exec c s = .next t) : s.Event t := by
  cases c with
  | powerOnReset => cases h; exact .restarts
  | transitOverrun => cases h; exact .begins
  | frameBeginsToArrive => cases h; exact .begins
  | idleFill => cases h; exact .active
  | returnDeadline seq => cases h; exact .returns seq
  | transmitArbitration => cases h; exact .arbitrates
  | frameSent => cases h; exact .sends
  | transitFrameForwarded => cases h; exact .forwards
  | ringLoss => cases h; exact .loses
  | optionStoreWriteComplete => cases h; exact .writes
  | supervisionScan => cases h; exact .scans
  | zeroDeadline i => cases h; exact .zeroExpires i
  | stepDeadline i => cases h; exact .stepExpires i
  | holdDeadline i => cases h; exact .holdExpires i
  | settleDeadline i => cases h; exact .settleExpires i
  | extensionCheck i => cases h; exact .checks i
  | ventDeadline i => cases h; exact .ventExpires i
  | releaseDeadline i => cases h; exact .releaseExpires i
  | stampDeadline => cases h; exact .actExpires .press
  | condemnDeadline => cases h; exact .actExpires .scrapCell
  | _ => cases h; exact .arrives _

/-- A law that neither the clock nor the queue of commands enters is kept by every step when every event keeps it. -/
theorem step_keeps {P : State → Prop} (tick : ∀ s c, P s → P { s with clock := c })
    (pop : ∀ s q, P s → P { s with pending := q }) (event : ∀ {s t}, P s → s.Event t → P t) {s t : State} (h : P s)
    (hst : step s = .next t) : P t := by
  unfold step at hst
  split at hst
  case h_1 => exact event (pop s _ h) (exec_event hst)
  case h_2 => cases hst; exact tick s _ h

end Sys2Proof.Machine
end


section
/-!
PROOFS. The operations that the events are made of, seen from the Ring Port and the bounded collections: each of them makes
offers, empties next-frame slots and keeps the Notice FIFO, the Route FIFO, the lists, the sample windows and the tallies
within their sizes. `State.Mild` says so of two states and is carried through every operation once.
-/

namespace Sys2Proof.Machine

/-! ## What an operation may do (R163, R77) -/

/-- The second state of the Ring Port is reached from the first by offers and by emptying next-frame slots. -/
inductive RingPort.Offered (p : RingPort) : RingPort → Prop
  | refl : p.Offered p
  | offer {p' : RingPort} (h : p.Offered p') (q : OwnFrame) : p.Offered (p'.offer q)
  | emptySlot {p' : RingPort} (h : p.Offered p') (k : Src) : p.Offered (p'.emptySlot k)

theorem RingPort.Offered.trans {p q r : RingPort} (h : p.Offered q) (h' : q.Offered r) : p.Offered r := by
  induction h' with
  | refl => exact h
  | offer _ x ih => exact ih.offer x
  | emptySlot _ k ih => exact ih.emptySlot k

/-- R182: no tally is past its 32 bits. -/
def Tallies.Fit (t : Tallies) : Prop := ∀ n ∈ t.group1 ++ t.group2, n ≤ 4294967295

/-- R133: the Route FIFO and the two lists are within their sizes. -/
def DispatchUnit.Fits (d : DispatchUnit) : Prop := d.routes.length ≤ 4 ∧ ∀ a, (d.list a).length ≤ 32

/-- The bounds of the collections that stand outside the Ring Port (R91, R133, R182, R184). -/
def State.Roomy (s : State) : Prop :=
  s.mgmt.notices.length ≤ 8 ∧ s.dispatch.Fits ∧ (∀ i, (s.station i).window.length ≤ 16) ∧ s.mgmt.tallies.Fit

/-- What an operation may do to the Ring Port and to the bounded collections. -/
structure State.Mild (s t : State) : Prop where
  port : s.port.Offered t.port
  room : s.Roomy → t.Roomy

theorem State.Mild.refl (s : State) : s.Mild s := ⟨.refl, id⟩

/-! ## The tallies (R182) -/

theorem Tallies.fit_iff (t : Tallies) : t.Fit ↔ t.received ≤ 4294967295 ∧ t.checkFailures ≤ 4294967295
    ∧ t.overruns ≤ 4294967295 ∧ t.notTaken ≤ 4294967295 ∧ t.ignored ≤ 4294967295 ∧ t.clashes ≤ 4294967295
    ∧ t.lateFindings ≤ 4294967295 ∧ t.pass ≤ 4294967295 ∧ t.condemn ≤ 4294967295 ∧ t.retest ≤ 4294967295
    ∧ t.hold ≤ 4294967295 ∧ t.lost ≤ 4294967295 ∧ t.dropped ≤ 4294967295 ∧ t.noSpace ≤ 4294967295 := by
  simp [Tallies.Fit, Tallies.group1, Tallies.group2]

theorem satAdd_le (n k : Nat) : satAdd n k ≤ 4294967295 := min_le_right ..

/-- A raised tally stops at its 32 bits, and the others stand. -/
theorem Tallies.Fit.add {t : Tallies} (h : t.Fit) (k : Nat) (x : Tally) : (t.add k x).Fit := by
  rw [Tallies.fit_iff] at h ⊢
  cases x <;> simp_all [Tallies.add, satAdd_le]

theorem Tallies.Fit.clear1 {t : Tallies} (h : t.Fit) : t.clear1.Fit := by
  rw [Tallies.fit_iff] at h ⊢; simp_all [Tallies.clear1]

theorem Tallies.Fit.clear2 {t : Tallies} (h : t.Fit) : t.clear2.Fit := by
  rw [Tallies.fit_iff] at h ⊢; simp_all [Tallies.clear2]

/-! ## One update of one block -/

@[simp] theorem list_setList_self (d : DispatchUnit) (a : Actuator) (l : List RecNo) : (d.setList a l).list a = l := by
  cases a <;> rfl

theorem list_setList_ne (d : DispatchUnit) {a b : Actuator} (h : a ≠ b) (l : List RecNo) :
    (d.setList a l).list b = d.list b := by
  cases a <;> cases b <;> first | rfl | exact absurd rfl h

@[simp] theorem setList_routes (d : DispatchUnit) (a : Actuator) (l : List RecNo) : (d.setList a l).routes = d.routes := by
  cases a <;> rfl

/-- A list replaced by one within its size. -/
theorem DispatchUnit.Fits.setList {d : DispatchUnit} (h : d.Fits) (a : Actuator) {l : List RecNo} (hl : l.length ≤ 32) :
    (d.setList a l).Fits := by
  refine ⟨by simpa using h.1, fun b => ?_⟩
  by_cases hb : a = b
  · subst hb; simpa using hl
  · rw [list_setList_ne d hb]; exact h.2 b

/-- An update of the Dispatch Unit that leaves the Route FIFO and the lists as they are. -/
theorem DispatchUnit.Fits.congr {d e : DispatchUnit} (h : d.Fits) (hr : e.routes = d.routes) (hm : e.markList = d.markList)
    (hs : e.scrapList = d.scrapList) : e.Fits := by
  refine ⟨by rw [hr]; exact h.1, fun a => ?_⟩
  cases a
  · exact (congrArg List.length hm).trans_le (h.2 .press)
  · exact (congrArg List.length hs).trans_le (h.2 .scrapCell)

@[simp] theorem doneWith_state (results : List Byte) (s : State) : (doneWith results s).state = s := rfl
@[simp] theorem refuseWith_state (st : Status) (s : State) : (refuseWith st s).state = s := rfl

namespace State.Mild
variable {s t : State} (h : s.Mild t)
include h

theorem trans {u : State} (h' : t.Mild u) : s.Mild u := ⟨h.port.trans h'.port, h'.room ∘ h.room⟩

theorem updRecords (f : RecordTable → RecordTable) : s.Mild (t.updRecords f) := ⟨h.port, h.room⟩
theorem updBanks (f : TypeBanks → TypeBanks) : s.Mild (t.updBanks f) := ⟨h.port, h.room⟩
theorem putRec (n : RecNo) (r : Option Record) : s.Mild (t.putRec n r) := ⟨h.port, h.room⟩
theorem offer (k : Src) (dst : Byte) (b : Body) : s.Mild (t.offer k dst b) := ⟨h.port.offer _, h.room⟩
theorem emptySlot (k : Src) : s.Mild (t.updPort (·.emptySlot k)) := ⟨h.port.emptySlot k, h.room⟩

theorem tallyBy (x : Tally) (k : Nat) : s.Mild (t.tallyBy x k) :=
  ⟨h.port, fun w => let ⟨hn, hd, hw, ht⟩ := h.room w; ⟨hn, hd, hw, ht.add k x⟩⟩
theorem tally (x : Tally) : s.Mild (t.tally x) := h.tallyBy x 1
theorem ignored : s.Mild t.ignored := h.tally .ignored

theorem updDispatch {f : DispatchUnit → DispatchUnit} (hf : t.dispatch.Fits → (f t.dispatch).Fits) :
    s.Mild (t.updDispatch f) :=
  ⟨h.port, fun w => let ⟨hn, hd, hw, ht⟩ := h.room w; ⟨hn, hf hd, hw, ht⟩⟩

theorem updStation (i : StationNo) {f : Station → Station}
    (hf : (t.station i).window.length ≤ 16 → (f (t.station i)).window.length ≤ 16) : s.Mild (t.updStation i f) := by
  refine ⟨h.port, fun w => ?_⟩
  obtain ⟨hn, hd, hw, ht⟩ := h.room w
  refine ⟨hn, hd, fun j => ?_, ht⟩
  by_cases hj : i = j
  · subst hj; rw [station_updStation_self]; exact hf (hw i)
  · rw [station_updStation_ne t hj]; exact hw j

theorem updMgmt {f : Management → Management}
    (hn : t.mgmt.notices.length ≤ 8 → (f t.mgmt).notices.length ≤ 8)
    (ht : t.mgmt.tallies.Fit → (f t.mgmt).tallies.Fit) : s.Mild (t.updMgmt f) :=
  ⟨h.port, fun w => let ⟨hn', hd, hw, ht'⟩ := h.room w; ⟨hn hn', hd, hw, ht ht'⟩⟩

theorem setDisp (a : Actuator) (x : ActDispatcher) : s.Mild (t.setDisp a x) :=
  h.updDispatch fun w => by cases a <;> exact w.congr rfl rfl rfl
theorem setOffline (a : Actuator) (x : Bool) : s.Mild (t.setOffline a x) :=
  h.updDispatch fun w => by cases a <;> exact w.congr rfl rfl rfl

/-! ## Records and the Route FIFO (R28, R29, R128, R137) -/

theorem modRec (n : RecNo) (f : Record → Record) : s.Mild (t.modRec n f) := by
  unfold State.modRec; split
  · exact h.putRec n _
  · exact h

theorem releaseRef (n : RecNo) : s.Mild (t.releaseRef n) := by
  unfold State.releaseRef; split
  · exact (h.updBanks _).modRec n _
  · exact h

theorem holdRec (n : RecNo) (why : HoldReason) : s.Mild (t.holdRec n why) := h.modRec n _
theorem closeRec (n : RecNo) (st : RecState) : s.Mild (t.closeRec n st) := (h.modRec n _).updRecords _

theorem placeRoute (e : RouteEntry) : s.Mild (t.placeRoute e) := by
  refine h.updDispatch fun w => ?_
  split
  case isTrue hl => exact ⟨by simpa using hl, w.2⟩
  case isFalse => exact w

theorem routeRec (n : RecNo) (lane : Lane) : s.Mild (t.routeRec n lane) := by
  unfold State.routeRec; split
  · exact h.placeRoute _
  · exact h

/-! ## The end of an event (R138, R185) -/

theorem pumpRoute : s.Mild t.pumpRoute := by
  unfold State.pumpRoute; split
  · split
    · exact (h.offer ..).updDispatch fun w => w.congr rfl rfl rfl
    · exact h
  · exact h

theorem pumpNotice : s.Mild t.pumpNotice := by
  unfold State.pumpNotice; split
  · split
    · exact h.offer ..
    · exact h
  · exact h

theorem endEvent : s.Mild t.endEvent := h.pumpRoute.pumpNotice

/-! ## A verdict (R27) -/

theorem offerNotice (x : Notice) : s.Mild (t.offerNotice x) := by
  unfold State.offerNotice; split
  case isTrue hl => exact h.updMgmt (fun _ => by simpa using hl.2) id
  case isFalse => exact h.tally _

theorem appendList (a : Actuator) (n : RecNo) : s.Mild (t.appendList a n) := by
  unfold State.appendList; split
  case isTrue => exact (h.holdRec ..).routeRec ..
  case isFalse hl =>
    split
    · exact (h.holdRec ..).routeRec ..
    · split
      · exact (h.holdRec ..).routeRec ..
      · exact ((h.updDispatch fun w => w.setList a (by simp; omega)).modRec ..).routeRec ..

theorem retestRec (n : RecNo) : s.Mild (t.retestRec n) := by
  unfold State.retestRec; split
  · split
    · exact (h.modRec ..).routeRec ..
    · exact ((h.releaseRef n).holdRec ..).routeRec ..
  · exact h

theorem disposeRec (n : RecNo) (v : Verdict) : s.Mild (t.disposeRec n v) := by
  cases v with
  | pass => exact (h.releaseRef n).appendList ..
  | condemn => exact (h.releaseRef n).appendList ..
  | retest => exact h.retestRec n
  | hold => exact ((h.releaseRef n).holdRec ..).routeRec ..

theorem giveVerdict (n : RecNo) (v : Verdict) (figures : Bool) : s.Mild (t.giveVerdict n v figures) := by
  unfold State.giveVerdict; split
  · exact h
  · dsimp only
    split
    · exact (h.modRec ..).disposeRec n v
    · exact (((h.modRec ..).disposeRec n v).offerNotice _).tally _

/-! ## Stations (chapter 4) -/

theorem orderStation (i : StationNo) (o : Order) : s.Mild (t.orderStation i o) := h.offer ..
theorem enterVacant (i : StationNo) : s.Mild (t.enterVacant i) := h.updStation i fun _ => Nat.zero_le _
theorem enterFaulted (i : StationNo) : s.Mild (t.enterFaulted i) := h.updStation i id
theorem releaseWith (i : StationNo) (o : Order) : s.Mild (t.releaseWith i o) := (h.orderStation i o).updStation i id
theorem ventAborted (i : StationNo) (e : TypeEntry) : s.Mild (t.ventAborted i e) := (h.orderStation i _).updStation i id
theorem unlink (i : StationNo) : s.Mild (t.unlink i) := h.updStation i id

theorem concludeTest (i : StationNo) (how : TestEnd) : s.Mild (t.concludeTest i how) := by
  unfold State.concludeTest; split
  · exact (h.giveVerdict ..).unlink i
  · exact h.unlink i

theorem endTest (i : StationNo) (why : Reason) : s.Mild (t.endTest i why) := by
  unfold State.endTest; split
  · split
    · exact (h.modRec ..).unlink i
    · exact h
  · exact h.concludeTest i _

theorem abortPath (i : StationNo) (e : TypeEntry) : s.Mild (t.abortPath i e) := by
  unfold State.abortPath; split
  · exact h.releaseWith ..
  · exact h.releaseWith ..
  · exact h.ventAborted ..
  · exact h.ventAborted ..
  · exact h.updStation i id
  · exact h

theorem abortTest (i : StationNo) (why : Reason) : s.Mild (t.abortTest i why) := (h.endTest i why).abortPath i _

theorem acceptSeat (i : StationNo) (n : RecNo) (r : Record) (f : SeatedFrom) : s.Mild (t.acceptSeat i n r f) :=
  ((h.putRec n _).orderStation i _).updStation i fun _ => Nat.zero_le _

theorem seatVacant (i : StationNo) (field : List Byte) : s.Mild (t.seatVacant i field) := by
  unfold State.seatVacant; split
  · exact (h.releaseWith ..).ignored
  · split
    · exact (h.releaseWith ..).modRec ..
    · exact h.acceptSeat ..

theorem finishRelease (i : StationNo) : s.Mild (t.finishRelease i) := by
  unfold State.finishRelease; split
  · exact h.updStation i id
  · exact h.enterVacant i

theorem seatedEvent (i : StationNo) (field : List Byte) : s.Mild (t.seatedEvent i field) := by
  unfold State.seatedEvent; split
  · exact h.seatVacant ..
  · split
    · exact (h.finishRelease i).ignored
    · exact (h.finishRelease i).seatVacant ..
  · exact h.ignored
  · exact h.ignored
  · exact h.ignored
  · exact ((h.endTest ..).enterVacant i).seatVacant ..

theorem sealFaultEvent (i : StationNo) : s.Mild (t.sealFaultEvent i) := by
  unfold State.sealFaultEvent; split
  case h_1 => exact h.updStation i id
  case h_6 =>
    split
    · exact h.ignored
    · exact h.abortTest ..
  case h_7 => exact h.ignored
  all_goals exact h.abortTest ..

theorem releasedEvent (i : StationNo) : s.Mild (t.releasedEvent i) := by
  unfold State.releasedEvent; split
  · exact h.finishRelease i
  · exact h.finishRelease i
  · exact h.updStation i id
  · exact h.ignored
  · exact h.ignored
  · exact (h.endTest ..).enterVacant i

theorem burstEvent (i : StationNo) : s.Mild (t.burstEvent i) := by
  unfold State.burstEvent; split
  · exact h.ignored
  · refine (State.Mild.enterFaulted ?_ i).emptySlot _
    split
    · exact h.concludeTest ..
    · exact h

theorem declareSilent (i : StationNo) : s.Mild (t.declareSilent i) :=
  ((h.endTest ..).enterFaulted i).orderStation i _

theorem stationUnreachable (i : StationNo) (b : Body) : s.Mild (t.stationUnreachable i b) := by
  unfold State.stationUnreachable; split
  · exact h
  · split
    · exact h.declareSilent i
    · exact h

theorem scan : s.Mild t.scan := by
  unfold State.scan
  generalize List.finRange 8 = l
  induction l generalizing t with
  | nil => exact h
  | cons i l ih =>
    refine ih ?_
    dsimp only
    split
    · exact (h.declareSilent i).endEvent
    · exact h

/-! ## The pressure cycle (chapter 5) -/

theorem modResult (i : StationNo) (f : TestResult → TestResult) : s.Mild (t.modResult i f) := by
  unfold State.modResult; split
  · exact h.modRec ..
  · exact h

theorem orderStep (i : StationNo) (e : TypeEntry) (k : Nat) : s.Mild (t.orderStep i e k) :=
  (h.orderStation i _).updStation i id

theorem captureZero (i : StationNo) (e : TypeEntry) (x : Sample) : s.Mild (t.captureZero i e x) := by
  unfold State.captureZero
  refine (State.Mild.orderStep ?_ i e 1).updStation i id
  split
  · exact h.modRec ..
  · exact h

theorem overpressure (i : StationNo) (e : TypeEntry) : s.Mild (t.overpressure i e) :=
  (h.concludeTest ..).ventAborted i e

theorem holdPressure (i : StationNo) (p : Nat) : s.Mild (t.holdPressure i p) := (h.updStation i id).modResult i _

theorem holdSample (i : StationNo) (e : TypeEntry) (x : Sample) : s.Mild (t.holdSample i e x) := by
  have h1 := h.holdPressure i x.pressure
  unfold State.holdSample; dsimp only
  split
  · exact h1.overpressure ..
  · split
    · exact h1.abortTest ..
    · exact h1

theorem phaseSample (i : StationNo) (x : Sample) : s.Mild (t.phaseSample i x) := by
  unfold State.phaseSample; dsimp only
  split
  · split
    · exact h.captureZero ..
    · exact h
  · split
    · exact h.overpressure ..
    · exact h
  · exact h.holdSample ..
  · exact h

theorem countGap (i : StationNo) (missed : Nat) : s.Mild (t.countGap i missed) := by
  unfold State.countGap; dsimp only
  split
  · exact h.updStation i id
  · exact (h.updStation i id).modResult ..

theorem expectNext (i : StationNo) (seq : Byte) : s.Mild (t.expectNext i seq) := h.updStation i id

/-- R91: the window holds the latest 16 samples. -/
theorem enterWindow (i : StationNo) (x : Sample) : s.Mild (t.enterWindow i x) :=
  h.updStation i fun _ => by simp [pushSample]; omega

theorem useSample (i : StationNo) (x : SampleFields) : s.Mild (t.useSample i x) := by
  unfold State.useSample; split
  · exact h.abortTest ..
  · exact (h.enterWindow ..).phaseSample ..

theorem inOrderSample (i : StationNo) (missed : Nat) (x : SampleFields) : s.Mild (t.inOrderSample i missed x) := by
  unfold State.inOrderSample; split
  · exact h.useSample ..
  · dsimp only
    split
    · exact (h.countGap ..).abortTest ..
    · exact (h.countGap ..).useSample ..

theorem sampleEvent (i : StationNo) (x : SampleFields) : s.Mild (t.sampleEvent i x) := by
  unfold State.sampleEvent; split
  · split
    · exact h
    · dsimp only
      split
      · split
        · exact h.expectNext ..
        · exact (h.expectNext ..).enterWindow ..
      · exact (h.expectNext ..).inOrderSample ..
  · exact h

theorem beginHold (i : StationNo) (e : TypeEntry) : s.Mild (t.beginHold i e) :=
  (h.updStation i fun _ => Nat.zero_le _).modResult ..

theorem reachedEvent (i : StationNo) (k : Nat) : s.Mild (t.reachedEvent i k) := by
  unfold State.reachedEvent; dsimp only
  split
  · split
    · exact h.orderStep ..
    · exact h.beginHold ..
  · exact h.ignored

theorem ventedEvent (i : StationNo) : s.Mild (t.ventedEvent i) := by
  unfold State.ventedEvent; split
  · split
    · exact h.releaseWith ..
    · exact h.updStation i fun _ => Nat.zero_le _
  · exact h.ignored

theorem zeroExpiry (i : StationNo) : s.Mild (t.zeroExpiry i) := by
  unfold State.zeroExpiry; split
  · exact h.abortTest ..
  · exact h

theorem stepExpiry (i : StationNo) : s.Mild (t.stepExpiry i) := by
  unfold State.stepExpiry; split
  · exact h.abortTest ..
  · exact h

theorem captureHold (i : StationNo) : s.Mild (t.captureHold i) := by
  unfold State.captureHold
  exact ((h.modResult i _).orderStation i _).updStation i id

theorem captureSettle (i : StationNo) : s.Mild (t.captureSettle i) := by
  refine State.Mild.releaseWith ?_ i _
  split
  · exact ((h.modResult i _).modResult i _).concludeTest ..
  · exact ((h.modResult i _).modResult i _).concludeTest ..

theorem capture (i : StationNo) : s.Mild (t.capture i) := by
  unfold State.capture; split
  · exact h.captureHold i
  · exact h.captureSettle i

theorem beginExtension (i : StationNo) : s.Mild (t.beginExtension i) := by
  unfold State.beginExtension; split
  · dsimp only
    split
    · exact h.abortTest ..
    · exact h.updStation i id
  · exact h

theorem phaseEndExpiry (i : StationNo) (phase : StState) : s.Mild (t.phaseEndExpiry i phase) := by
  unfold State.phaseEndExpiry; split
  · split
    · exact h.capture i
    · exact h.beginExtension i
  · exact h

theorem extensionExpiry (i : StationNo) : s.Mild (t.extensionExpiry i) := by
  unfold State.extensionExpiry; split
  · exact h
  · split
    · split
      · exact h.capture i
      · split
        · exact h.abortTest ..
        · exact h.updStation i id
    · exact h

theorem ventExpiry (i : StationNo) : s.Mild (t.ventExpiry i) := by
  unfold State.ventExpiry; split
  · exact ((h.endTest ..).enterFaulted i).orderStation ..
  · exact h

theorem releaseExpiry (i : StationNo) : s.Mild (t.releaseExpiry i) := by
  unfold State.releaseExpiry; split
  · exact (h.enterFaulted i).orderStation ..
  · exact h

/-! ## Intake reads and findings (chapters 2 and 3) -/

theorem freeRec (n : RecNo) : s.Mild (t.freeRec n) := (h.updRecords _).putRec n none
theorem raiseOpen : s.Mild t.raiseOpen := h.updRecords _

theorem identify (n : RecNo) (r : Record) : s.Mild (t.identify n r) := ((h.putRec n _).updBanks _).routeRec n _

theorem typeRec (n : RecNo) (r : Record) : s.Mild (t.typeRec n r) := by
  unfold State.typeRec; dsimp only
  split
  · exact (h.putRec n _).giveVerdict ..
  · split
    · exact (h.putRec n _).giveVerdict ..
    · split
      · exact (h.putRec n _).giveVerdict ..
      · exact h.identify ..

theorem openFresh (x : TagFields) (serial : List Byte) : s.Mild (t.openFresh x serial) := by
  unfold State.openFresh State.allocate
  cases t.lowestFree with
  | some n => exact h.raiseOpen.typeRec ..
  | none =>
    cases t.records.closed with
    | nil => exact (h.tally _).placeRoute _
    | cons n _ => exact (h.freeRec n).raiseOpen.typeRec ..

theorem lookUp (x : TagFields) (serial : List Byte) : s.Mild (t.lookUp x serial) := by
  have reopened (n : RecNo) (r : Record) : s.Mild (t.reopen n r x) := State.Mild.typeRec (h.updRecords _).raiseOpen n _
  unfold State.lookUp; split
  · exact h.openFresh ..
  · split
    · exact h
    · split
      · exact reopened ..
      · exact reopened ..
      · exact (h.freeRec _).openFresh ..
      · exact ((h.modRec ..).tally _).placeRoute _

theorem intake (p : List Byte) : s.Mild (t.intake p).1 := by
  unfold State.intake; split
  · exact h.ignored
  · split
    · exact h
    · split
      · exact h
      · split
        · split
          · exact h.lookUp ..
          · exact h.ignored
        · exact h.ignored

theorem evaluate (n : RecNo) : s.Mild (t.evaluate n) := by
  unfold State.evaluate; split
  · exact h
  · split
    · exact h.giveVerdict ..
    · split
      · exact h.modRec ..
      · exact h

theorem closeTest (n : RecNo) : s.Mild (t.closeTest n) := by
  unfold State.closeTest; split
  · exact h
  · split
    · exact h.evaluate n
    · exact h

theorem findingFor (n : RecNo) (r : Record) (f : FindingFields) : s.Mild (t.findingFor n r f).1 := by
  unfold State.findingFor; dsimp only
  split
  · split
    · exact h
    · exact (h.modRec ..).closeTest n
  · split
    · exact h
    · exact (h.modRec ..).evaluate n
  · split
    · exact h
    · exact (h.modRec ..).evaluate n
  · exact h.modRec ..
  · exact h.tally _

theorem findingFrame (p : List Byte) : s.Mild (t.findingFrame p).1 := by
  unfold State.findingFrame; split
  · exact h.ignored
  · split
    · exact h.ignored
    · split
      · exact h.ignored
      · split
        · exact h.ignored
        · exact h.findingFor ..

/-! ## Arrivals, DONE frames and reports (chapter 7) -/

theorem setList (a : Actuator) {l : List RecNo} (hl : t.dispatch.Fits → l.length ≤ 32) : s.Mild (t.setList a l) :=
  h.updDispatch fun w => w.setList a (hl w)

theorem dropFromList (a : Actuator) (n : RecNo) : s.Mild (t.dropFromList a n) :=
  h.setList a fun w => (List.length_filter_le ..).trans (w.2 a)

theorem passBy (a : Actuator) (n : RecNo) : s.Mild (t.passBy a n) := by
  unfold State.passBy; split
  · split
    · unfold State.declareLost; split
      · exact (((h.dropFromList ..).closeRec ..).tally _).offerNotice _
      · exact h
    · exact h.modRec ..
  · exact h

theorem passByAll (a : Actuator) (l : List RecNo) : s.Mild (l.foldl (State.passBy a) t) := by
  induction l generalizing t with
  | nil => exact h
  | cons n l ih => exact ih (h.passBy a n)

theorem matched (a : Actuator) (addr : Byte) (n : RecNo) (r : Record) : s.Mild (t.matched a addr n r) :=
  (((h.dropFromList ..).modRec ..).offer ..).setDisp ..

theorem refuse (a : Actuator) (addr : Byte) (field : List Byte) : s.Mild (t.refuse a addr field) :=
  (h.offer ..).setDisp ..

theorem arrivalOf (a : Actuator) (addr : Byte) (field serial : List Byte) : s.Mild (t.arrivalOf a addr field serial) := by
  unfold State.arrivalOf; split
  · dsimp only
    split
    · exact (h.passByAll ..).matched ..
    · exact h.passByAll ..
  · unfold State.unmatched; split
    · exact ((h.dropFromList ..).holdRec ..).refuse ..
    · exact (h.refuse ..).ignored

theorem arrival (a : Actuator) (addr : Byte) (p : List Byte) : s.Mild (t.arrival a addr p).1 := by
  unfold State.arrival; split
  · exact h.ignored
  · split
    · exact h
    · split
      · exact h
      · split
        · exact (h.refuse ..).ignored
        · exact h.arrivalOf ..

theorem doneFrame (a : Actuator) (p : List Byte) : s.Mild (t.doneFrame a p) := by
  unfold State.doneFrame; split
  · split
    · split
      · exact (h.closeRec ..).setDisp ..
      · split
        · exact (h.holdRec ..).setDisp ..
        · exact h.ignored
    · exact h.ignored
  · exact h.ignored

theorem unconfirmed (a : Actuator) (c : InFlight) : s.Mild (t.unconfirmed a c) :=
  ((h.holdRec ..).setOffline ..).setDisp ..

theorem actExpiry (a : Actuator) : s.Mild (t.actExpiry a) := by
  unfold State.actExpiry; split
  · split
    · exact h.unconfirmed ..
    · exact h
  · exact h

theorem actReport (a : Actuator) (o : Order) (taken : Bool) : s.Mild (t.actReport a o taken) := by
  unfold State.actReport; split
  · exact h.updDispatch fun w => by cases a <;> exact w.congr rfl rfl rfl
  · split
    · exact h
    · split
      · refine State.Mild.setDisp ?_ a _
        split
        · exact h
        · exact h.setOffline ..
      · exact h
    · split
      · exact h.unconfirmed ..
      · exact h

theorem unrouted (e : RouteEntry) : s.Mild (t.unrouted e) := by
  unfold State.unrouted; split
  · exact h
  · split
    · exact h
    · split
      · split
        · exact (h.dropFromList ..).holdRec ..
        · split
          · exact (h.dropFromList ..).holdRec ..
          · exact h
      · exact h

theorem popRoute : s.Mild t.popRoute :=
  h.updDispatch fun w => ⟨by have := w.1; simp; omega, w.2⟩

theorem routeReport (taken : Bool) : s.Mild (t.routeReport taken) := by
  unfold State.routeReport; split
  · exact h.updDispatch fun w => w.congr rfl rfl rfl
  · split
    · split
      · exact h.popRoute
      · exact ((h.updDispatch fun w => w.congr rfl rfl rfl).unrouted _).popRoute
    · exact h.popRoute
    · exact h

theorem clearOffline (addr : Byte) : s.Mild (t.clearOffline addr) := by
  unfold State.clearOffline; split
  · exact h.setOffline ..
  · exact h.setOffline ..
  · exact h.updDispatch fun w => w.congr rfl rfl rfl
  · exact h

/-! ## Requests (chapters 1, 4 and 9) -/

theorem takeOut (i : StationNo) : s.Mild (t.takeOut i) := by
  unfold State.takeOut; dsimp only
  split
  · exact h
  · exact h.updStation i fun _ => Nat.zero_le _
  · exact h.updStation i fun _ => Nat.zero_le _
  · exact h.updStation i fun _ => Nat.zero_le _
  · exact h.updStation i id
  · exact (h.abortTest ..).updStation i id

theorem vacantNow (i : StationNo) : s.Mild (t.vacantNow i) := h.updStation i fun _ => Nat.zero_le _

theorem abortResync : s.Mild t.abortResync := by
  unfold State.abortResync
  generalize List.finRange 8 = l
  induction l generalizing t with
  | nil => exact h
  | cons i l ih =>
    refine ih ?_
    dsimp only
    split
    · exact h.orderStation ..
    · exact h


/-- R189: every block's line-reset rule. -/
theorem lineReset : s.Mild t.lineReset := by
  have hd : s.Mild (t.updDispatch (DispatchUnit.lineReset t.port)) :=
    h.updDispatch fun _ => ⟨Nat.zero_le _, fun a => by cases a <;> exact Nat.zero_le _⟩
  have hp := ((hd.emptySlot .mark).emptySlot .scrap).emptySlot .route
  refine State.Mild.abortResync ⟨hp.port, fun w => ?_⟩
  obtain ⟨hn, hd, hw, ht⟩ := hp.room w
  refine ⟨hn, hd, fun i => ?_, ht⟩
  calc ((t.stations.map Station.lineReset)[i]).window.length
      = ((t.station i).lineReset).window.length := by simp [State.station]
    _ = (t.station i).window.length := by unfold Station.lineReset; split <;> [rfl; split] <;> rfl
    _ ≤ 16 := hw i

theorem setBank (k : BankId) (x : Bank) : s.Mild (t.setBank k x) := h.updBanks _

theorem setGate (g : Gate) : s.Mild (t.setGate g) := h.updDispatch fun w => w.congr rfl rfl rfl

theorem setRole (i : Fin 62) (r : Role) : s.Mild (t.setRole i r) :=
  ⟨h.port, fun w => let ⟨hn, hd, hw⟩ := h.room w; ⟨hn, hd.congr rfl rfl rfl, hw⟩⟩

/-- A row of the Management Responder's that holds neither the notices nor the tallies. -/
theorem setResponder (x : Responder) : s.Mild (t.updMgmt fun m => { m with responder := x }) := h.updMgmt id id

theorem setTallies {x : Tallies} (hx : t.mgmt.tallies.Fit → x.Fit) :
    s.Mild (t.updMgmt fun m => { m with tallies := x }) := h.updMgmt id hx

theorem writeType (args : List Byte) : s.Mild (Machine.writeType args t).state := by
  unfold Machine.writeType; split
  · split
    · exact h
    · dsimp only
      split
      · split
        · exact h
        · exact h.setBank ..
      · exact h.setBank ..
  · exact h

theorem writeMatch (args : List Byte) : s.Mild (Machine.writeMatch args t).state := by
  unfold Machine.writeMatch; split
  · split
    · exact h
    · split
      · split
        · exact h.setBank ..
        · exact h
      · exact h.setBank ..
  · exact h

theorem copyBank : s.Mild (Machine.copyBank t).state := by
  unfold Machine.copyBank; dsimp only; split
  · exact h
  · exact h.setBank ..

theorem activate : s.Mild (Machine.activate t).state := by
  unfold Machine.activate; dsimp only; split
  · exact h
  · split
    · exact (h.setBank ..).setBank ..
    · exact h

theorem writeRole (args : List Byte) : s.Mild (Machine.writeRole args t).state := by
  unfold Machine.writeRole; dsimp only; split
  · exact h
  · split
    · exact h
    · split
      · exact h
      · split
        · exact h
        · split
          · exact h
          · exact h.setRole ..

theorem writeStation (args : List Byte) : s.Mild (Machine.writeStation args t).state := by
  have config (i : StationNo) (c : StationConfig) : s.Mild (t.updStation i fun st => { st with cfg := c }) :=
    h.updStation i id
  unfold Machine.writeStation; split
  · exact h
  · dsimp only; split
    · exact h
    · split
      · exact config ..
      · split
        · exact h
        · exact config ..

theorem setService (args : List Byte) : s.Mild (Machine.setService args t).state := by
  unfold Machine.setService; split
  · unfold serviceIn; split
    · exact h
    · split
      · exact h
      · split
        · exact h
        · split
          · exact h.vacantNow _
          · exact h
  · split
    · unfold serviceOut; split
      · exact h
      · exact h.takeOut _
    · exact h

theorem clearFault (args : List Byte) : s.Mild (Machine.clearFault args t).state := by
  unfold Machine.clearFault; split
  · exact h
  · split
    · exact h.vacantNow _
    · exact h.vacantNow _
    all_goals exact h

theorem removeRecord (args : List Byte) : s.Mild (Machine.removeRecord args t).state := by
  unfold Machine.removeRecord; split
  · exact h
  · split
    · exact h
    · split
      · exact h.freeRec _
      · exact h

theorem setCalendar (args : List Byte) : s.Mild (Machine.setCalendar args t).state := by
  have calendar (c : Calendar) : s.Mild (t.updMgmt fun m => { m with calendar := some c }) := h.updMgmt id id
  unfold Machine.setCalendar; dsimp only; split
  · exact calendar _
  · exact h

theorem openGate : s.Mild (Machine.openGate t).state := by
  unfold Machine.openGate; split
  · exact h
  · exact h.setGate _

theorem readTallies (args : List Byte) : s.Mild (Machine.readTallies args t).state := by
  unfold Machine.readTallies; dsimp only; split
  · exact h
  · exact h
  · exact h.setTallies Tallies.Fit.clear1
  · exact h.setTallies Tallies.Fit.clear2
  · exact h

/-- R10, R63, R179, R180: the requests that read. -/
theorem reads (args : List Byte) : s.Mild (readType args t).state ∧ s.Mild (readMatch args t).state
    ∧ s.Mild (readRole args t).state ∧ s.Mild (readStation args t).state ∧ s.Mild (readRecord args t).state := by
  refine ⟨?_, ?_, ?_, ?_, ?_⟩
  · unfold readType; split <;> exact h
  · unfold readMatch; split <;> exact h
  · unfold readRole; split <;> exact h
  · unfold readStation; split <;> exact h
  · unfold readRecord; dsimp only; split
    · split <;> exact h
    · split
      · exact h
      · split <;> exact h

/-- R179 to R189: a request carried out. -/
theorem serve (code : Byte) (args : List Byte) : s.Mild (Machine.serve code args t).state := by
  obtain ⟨readsType, readsMatch, readsRole, readsStation, readsRecord⟩ := h.reads args
  unfold Machine.serve
  split
  case h_1 => exact readsType
  case h_2 => exact h.writeType args
  case h_3 => exact readsMatch
  case h_4 => exact h.writeMatch args
  case h_5 => exact h.copyBank
  case h_6 => exact h.activate
  case h_7 => exact h
  case h_8 => exact readsRole
  case h_9 => exact h.writeRole args
  case h_10 => exact readsStation
  case h_11 => exact h.writeStation args
  case h_12 => exact h.setService args
  case h_13 => exact h.clearFault args
  case h_14 => exact readsRecord
  case h_15 => exact h.removeRecord args
  case h_16 => exact h.setCalendar args
  case h_17 => exact h.openGate
  case h_18 => exact h.setGate _
  case h_19 => exact h.readTallies args
  case h_20 => exact h
  case h_21 => exact h
  case h_22 => rw [doneWith_state]; exact h.lineReset
  case h_23 => exact h

theorem reply (dst tag code : Byte) (st : Status) (results : List Byte) : s.Mild (t.reply dst tag code st results) :=
  (h.offer ..).setResponder _

theorem request (src : Byte) (p : List Byte) : s.Mild (t.request src p).1 := by
  have answered {a : Answer} (ha : s.Mild a.state) (dst tag code : Byte) : s.Mild (State.answer dst tag code a) :=
    ha.pumpRoute.reply ..
  unfold State.request; split
  · exact h
  · split
    · split
      · unfold State.serveRequest; split
        · exact answered h ..
        · split
          · split
            · exact h.setResponder _
            · exact answered (h.serve ..) ..
          · exact answered h ..
      · exact answered h ..
    · exact h.ignored

theorem writeComplete : s.Mild t.writeComplete := by
  unfold State.writeComplete; split
  case h_1 w _ =>
    have h1 : s.Mild (t.updMgmt fun m => { m with store := .holds w.options, responder := .idle }) := h.updMgmt id id
    dsimp only; split
    · exact h1
    · exact h1.reply ..
  case h_2 => exact h

/-! ## A frame addressed to the part, and the report of an own one (R161, R169) -/

theorem stationFrame (i : StationNo) (f : Frame) : s.Mild (t.stationFrame i f) := by
  have h1 : s.Mild (if (t.station i).state = .outOfService then t
      else t.updStation i fun st => { st with lastFrame := t.clock }) := by
    split
    · exact h
    · exact h.updStation i id
  unfold State.stationFrame; dsimp only
  split
  · split
    · exact h1.sampleEvent ..
    · exact h1.ignored
  · split
    · split
      · exact h1.seatedEvent ..
      · exact h1.sealFaultEvent ..
      · exact h1.reachedEvent ..
      · exact h1.ventedEvent ..
      · exact h1.releasedEvent ..
      · exact h1.burstEvent ..
      · exact h1.ignored
    · exact h1.ignored

theorem roleFrame (r : Role) (f : Frame) : s.Mild (t.roleFrame r f).1 := by
  unfold State.roleFrame; split
  · exact h.ignored
  · split
    · unfold State.tagFrame; split
      · exact h.intake ..
      · exact h.arrival ..
      · exact h.arrival ..
      · exact h.ignored
    · split
      · split
        · exact h.findingFrame ..
        · exact h.ignored
      · split
        · unfold State.doneByRole; split
          · exact h.doneFrame ..
          · exact h.doneFrame ..
          · exact h.ignored
        · exact h.ignored

theorem handle (f : Frame) : s.Mild (t.handle f).1 := by
  unfold State.handle; split
  · exact h.request ..
  · split
    · exact h.stationFrame ..
    · exact h.roleFrame ..

theorem report (q : OwnFrame) (taken : Bool) : s.Mild (t.report q taken) := by
  unfold State.report; split
  · split
    · exact h
    · exact h.stationUnreachable ..
  · exact h.actReport ..
  · exact h.actReport ..
  · exact h.routeReport ..
  · split
    · exact h.setResponder _
    · exact h
  · exact h.updMgmt (fun hn => by simp; omega) id
  · exact h

/-! ## Ring loss (R85, R156, R171, R186) -/

theorem stationLoss (i : StationNo) : s.Mild (t.stationLoss i) := by
  unfold State.stationLoss; split
  · exact (h.endTest ..).updStation i id
  · exact h

theorem actLoss (a : Actuator) : s.Mild (t.actLoss a) := by
  unfold State.actLoss; split
  · exact (h.holdRec ..).setDisp ..
  · exact h.setDisp ..
  · exact h

theorem dispatchLoss : s.Mild t.dispatchLoss := by
  unfold State.dispatchLoss
  exact ((h.actLoss .press).actLoss .scrapCell).updDispatch fun w => w.congr rfl rfl rfl

theorem mgmtLoss : s.Mild t.mgmtLoss := by
  unfold State.mgmtLoss
  exact (h.tallyBy ..).updMgmt (fun _ => Nat.zero_le _) id

theorem stationsLoss (l : List StationNo) : s.Mild (l.foldl State.stationLoss t) := by
  induction l generalizing t with
  | nil => exact h
  | cons i l ih => exact ih (h.stationLoss i)

/-- What ring loss does to the blocks once the Ring Port is cleared. -/
theorem blocksLoss : s.Mild ((List.finRange 8).foldl State.stationLoss t).dispatchLoss.mgmtLoss :=
  ((h.stationsLoss _).dispatchLoss).mgmtLoss

end State.Mild

end Sys2Proof.Machine
end


section
/-!
PROOFS. R162's law of the originating sources, kept by every step: offers keep it, and so does each of the Ring Port's own
moves, a frame being sent, flying, coming back, injected again or lost.
-/

namespace Sys2Proof.Machine

/-- R162: the law of every source. -/
def RingPort.Law (p : RingPort) : Prop := ∀ k, p.lawOf k

/-! ## What the law reads (R162) -/

/-- The law of a source depends on its own state and on the numbers of its frames. -/
theorem RingPort.lawOf_congr {p p' : RingPort} {k : Src} (hs : p'.source k = p.source k)
    (hq : p'.queuedOf k = p.queuedOf k) (hf : p'.flyingOf k = p.flyingOf k) (h : p.lawOf k) : p'.lawOf k := by
  unfold RingPort.lawOf
  rw [hs, hq, hf]
  exact h

/-- The law of a port depends on its sources, its queue, its frames in flight and the frame being sent. -/
theorem RingPort.Law.congr {p p' : RingPort} (h : p.Law) (hs : p'.sources = p.sources) (hq : ∀ k, p'.queuedOf k = p.queuedOf k)
    (hf : p'.flights = p.flights) : p'.Law := fun k =>
  RingPort.lawOf_congr (by simp [RingPort.source, hs]) (hq k) (by simp [RingPort.flyingOf, hf]) (h k)

section source
variable {p : RingPort} {k : Src} (h : p.lawOf k)
include h

theorem RingPort.lawOf.slot {q : OwnFrame} (hq : (p.source k).slot = some q) : q.src = k := h.2 q hq

theorem RingPort.lawOf.free (hc : (p.source k).cond = .free) :
    p.queuedOf k = 0 ∧ p.flyingOf k = 0 ∧ (p.source k).slot = none := by
  have := h.1; rwa [hc] at this

/-- A source with a frame in the queue, or being sent, is queued. -/
theorem RingPort.lawOf.queued (hq : p.queuedOf k ≠ 0) :
    (p.source k).cond = .queued ∧ p.queuedOf k = 1 ∧ p.flyingOf k = 0 := by
  have := h.1
  cases hc : (p.source k).cond <;> simp_all

/-- A source with a frame in flight is on the ring. -/
theorem RingPort.lawOf.flying (hf : p.flyingOf k ≠ 0) :
    (p.source k).cond = .onRing ∧ p.queuedOf k = 0 ∧ p.flyingOf k = 1 := by
  have := h.1
  cases hc : (p.source k).cond <;> simp_all

/-- R162: a source has one frame at most. -/
theorem RingPort.lawOf.le_one : p.queuedOf k ≤ 1 ∧ p.flyingOf k ≤ 1 := by
  have := h.1
  cases hc : (p.source k).cond <;> simp_all

end source

/-! ## One source rewritten -/

@[simp] theorem queuedOf_setSource (p : RingPort) (k j : Src) (x : SourceState) :
    (p.setSource k x).queuedOf j = p.queuedOf j := rfl
@[simp] theorem flyingOf_setSource (p : RingPort) (k j : Src) (x : SourceState) :
    (p.setSource k x).flyingOf j = p.flyingOf j := rfl

theorem RingPort.lawOf_setSource_ne {p : RingPort} {k j : Src} (hj : k ≠ j) (x : SourceState) (h : p.lawOf j) :
    (p.setSource k x).lawOf j :=
  RingPort.lawOf_congr (source_setSource_ne p hj x) rfl rfl h

/-- A source's slot emptied or filled with a frame of its own, while the source is not free. -/
theorem RingPort.Law.setSlot {p : RingPort} (h : p.Law) {k : Src} {slot : Option OwnFrame}
    (hs : ∀ q, slot = some q → q.src = k) (hc : (p.source k).cond ≠ .free ∨ slot = none) :
    (p.setSource k { p.source k with slot := slot }).Law := by
  intro j
  by_cases hj : k = j
  · subst hj
    refine ⟨?_, by simpa using hs⟩
    have hk := (h k).1
    cases e : (p.source k).cond <;> simp_all
  · exact RingPort.lawOf_setSource_ne hj _ (h j)

/-- A source left with no frame is free. -/
theorem RingPort.law_setSource_free {p : RingPort} {k : Src} (others : ∀ j, k ≠ j → p.lawOf j) (hq : p.queuedOf k = 0)
    (hf : p.flyingOf k = 0) : (p.setSource k ⟨.free, none⟩).Law := by
  intro j
  by_cases hj : k = j
  · subst hj
    exact ⟨by simp [hq, hf], by simp⟩
  · exact RingPort.lawOf_setSource_ne hj _ (others j hj)

/-! ## A frame joins the Inject Queue (R163, R167, R169) -/

theorem queuedOf_append (p : RingPort) (q : OwnFrame) (k : Src) :
    RingPort.queuedOf { p with queue := p.queue ++ [q] } k = p.queuedOf k + if q.src = k then 1 else 0 := by
  simp only [RingPort.queuedOf, List.countP_append, List.countP_singleton, beq_iff_eq]
  omega

/-- R163: a frame of a source that has none joins the queue, and its source is queued. -/
theorem RingPort.law_enqueue {p : RingPort} {q : OwnFrame} {slot : Option OwnFrame}
    (others : ∀ j, q.src ≠ j → p.lawOf j) (hq : p.queuedOf q.src = 0) (hf : p.flyingOf q.src = 0)
    (hs : ∀ x, slot = some x → x.src = q.src) :
    RingPort.Law { p.setSource q.src ⟨.queued, slot⟩ with queue := p.queue ++ [q] } := by
  intro j
  let p' : RingPort := { p.setSource q.src ⟨.queued, slot⟩ with queue := p.queue ++ [q] }
  have hj : p'.queuedOf j = p.queuedOf j + if q.src = j then 1 else 0 := queuedOf_append (p.setSource q.src _) q j
  by_cases h : q.src = j
  · subst h
    have hsrc : p'.source q.src = ⟨.queued, slot⟩ := source_setSource_self ..
    refine ⟨?_, by rw [hsrc]; exact hs⟩
    rw [hsrc]
    exact ⟨by simpa [hq] using hj, hf⟩
  · exact RingPort.lawOf_congr (source_setSource_ne p h _) (by simpa [h] using hj) rfl (others j h)

/-- R163: an offer keeps the law: from a free source the frame joins the queue, from a busy one it takes the slot. -/
theorem RingPort.Law.offer {p : RingPort} (h : p.Law) (q : OwnFrame) : (p.offer q).Law := by
  unfold RingPort.offer; split
  case h_1 hc =>
    obtain ⟨hq, hf, hs⟩ := (h q.src).free hc
    exact RingPort.law_enqueue (fun j _ => h j) hq hf (by simp [hs])
  case h_2 hc =>
    split
    · exact h.setSlot (by simp) (.inl hc)
    · exact h

/-- R77: a slot emptied. -/
theorem RingPort.Law.emptySlot {p : RingPort} (h : p.Law) (k : Src) : (p.emptySlot k).Law :=
  h.setSlot (by simp) (.inr rfl)

theorem RingPort.Offered.law {p p' : RingPort} (h : p.Offered p') (w : p.Law) : p'.Law := by
  induction h with
  | refl => exact w
  | offer _ q ih => exact ih.offer q
  | emptySlot _ k ih => exact ih.emptySlot k

/-! ## A frame in flight comes back (R167, R169) -/

/-- The source of a frame taken from the list of frames in flight has no frame left; the others are as they were. -/
theorem RingPort.Law.landed {p : RingPort} (h : p.Law) {x : Flight} (hx : x ∈ p.flights) :
    let p' : RingPort := { p with flights := p.flights.erase x }
    p'.queuedOf x.frame.src = 0 ∧ p'.flyingOf x.frame.src = 0 ∧ ∀ j, x.frame.src ≠ j → p'.lawOf j := by
  intro p'
  have hfly (j : Src) : p'.flyingOf j = p.flyingOf j - if x.frame.src = j then 1 else 0 := by
    simp [RingPort.flyingOf, p', List.countP_erase, hx]
  have hpos : p.flyingOf x.frame.src ≠ 0 := by
    have : 0 < p.flyingOf x.frame.src := List.countP_pos_iff.mpr ⟨x, hx, by simp⟩
    omega
  obtain ⟨-, hq, hf⟩ := (h x.frame.src).flying hpos
  refine ⟨hq, by rw [hfly, hf]; simp, fun j hj => ?_⟩
  exact RingPort.lawOf_congr (p := p) rfl rfl (by rw [hfly]; simp [hj]) (h j)

/-- R169: the source is free, or queued with the frame of its slot. -/
theorem RingPort.Law.advance {p : RingPort} (h : p.Law) {x : Flight} (hx : x ∈ p.flights) :
    (RingPort.advance x.frame.src { p with flights := p.flights.erase x }).Law := by
  obtain ⟨hq, hf, others⟩ := h.landed hx
  unfold RingPort.advance; split
  case h_1 q hs =>
    have hsrc : q.src = x.frame.src := (h x.frame.src).slot hs
    rw [← hsrc] at others hq hf ⊢
    exact RingPort.law_enqueue others hq hf (by simp)
  case h_2 => exact RingPort.law_setSource_free others hq hf

/-- R167: the order joins the queue again. -/
theorem RingPort.Law.reinject {p : RingPort} (h : p.Law) {x : Flight} (hx : x ∈ p.flights) :
    (RingPort.reinject x.frame { p with flights := p.flights.erase x }).Law := by
  obtain ⟨hq, hf, others⟩ := h.landed hx
  exact RingPort.law_enqueue (q := { x.frame with reinjected := true }) others hq hf (h x.frame.src).2

/-! ## A frame is sent (R164, R165) -/

theorem queuedOf_cons_sent {p : RingPort} {q : OwnFrame} {rest : List OwnFrame} (ho : p.out = .idle)
    (hq : p.queue = q :: rest) (own : Byte) (k : Src) : (p.sendOwn own q rest).queuedOf k = p.queuedOf k := by
  simp only [RingPort.queuedOf, RingPort.sendOwn, ho, hq, List.countP_cons, beq_iff_eq]
  omega

/-- R165: the frame given the OUT pair is still its source's one queued frame. -/
theorem RingPort.Law.arbitrate {p : RingPort} (h : p.Law) (ho : p.out = .idle) (own : Byte) : (p.arbitrate own).Law := by
  have transit (f : Frame) (n : Nat) : (p.sendTransit f n).Law :=
    h.congr rfl (by simp [RingPort.queuedOf, RingPort.sendTransit, ho]) rfl
  have sends {q : OwnFrame} {rest : List OwnFrame} (hq : p.queue = q :: rest) : (p.sendOwn own q rest).Law :=
    h.congr rfl (queuedOf_cons_sent ho hq own) rfl
  unfold RingPort.arbitrate; split
  case h_1 => exact transit _ _
  case h_2 hq =>
    split
    · exact transit _ _
    · exact sends hq
  case h_3 hq => exact sends hq
  case h_4 => exact h.congr rfl (fun _ => rfl) rfl

/-- R164: the frame sent is on the ring, and so is its source; an orphan leaves nothing. -/
theorem RingPort.Law.sent {p : RingPort} (h : p.Law) (c : Clock) : (p.sent c).Law := by
  unfold RingPort.sent; split
  case h_1 q w ho =>
    intro j
    let p' : RingPort := { p.setSource q.src { p.source q.src with cond := .onRing } with
      out := .idle, flights := p.flights ++ [⟨w.seq, q, afterMs c 100⟩] }
    have hqueue : p'.queuedOf j + (if q.src = j then 1 else 0) = p.queuedOf j := by
      simp only [RingPort.queuedOf, p', ho]
      rfl
    have hfly : p'.flyingOf j = p.flyingOf j + if q.src = j then 1 else 0 := by
      simp [RingPort.flyingOf, p', List.countP_append, List.countP_singleton]
    by_cases hj : q.src = j
    · subst hj
      have hsrc : p'.source q.src = { p.source q.src with cond := .onRing } := source_setSource_self ..
      rw [if_pos rfl] at hqueue hfly
      have hpos : p.queuedOf q.src ≠ 0 := by omega
      obtain ⟨-, hq1, hf0⟩ := (h q.src).queued hpos
      refine ⟨?_, by rw [hsrc]; exact (h q.src).2⟩
      rw [hsrc]
      exact (⟨by omega, by omega⟩ : p'.queuedOf q.src = 0 ∧ p'.flyingOf q.src = 1)
    · exact RingPort.lawOf_congr (source_setSource_ne p hj _) (by simpa [hj] using hqueue) (by simpa [hj] using hfly) (h j)
  case h_2 ho => exact h.congr rfl (by simp [RingPort.queuedOf, ho]) rfl
  case h_3 => exact h

theorem RingPort.Law.forwarded {p : RingPort} (h : p.Law) : p.forwarded.Law := by
  unfold RingPort.forwarded; split
  case h_1 ho => exact h.congr rfl (by simp [RingPort.queuedOf, ho]) rfl
  case h_2 => exact h

/-! ## Ring loss and reset (R162, R171, R173) -/

/-- With every source free and empty, nothing queued, nothing in flight and no frame but an orphan being sent. -/
theorem RingPort.law_of_empty {p : RingPort} (hs : p.sources = Vector.replicate 13 ⟨.free, none⟩) (hq : ∀ k, p.queuedOf k = 0)
    (hf : p.flights = []) : p.Law := by
  intro k
  have hk : p.source k = ⟨.free, none⟩ := by simp [RingPort.source, hs]
  exact ⟨by simp [hk, hq, RingPort.flyingOf, hf], by simp [hk]⟩

theorem RingPort.law_loss (p : RingPort) : p.loss.Law :=
  RingPort.law_of_empty rfl (fun k => by cases ho : p.out <;> simp [RingPort.queuedOf, RingPort.loss, OutPair.orphaned, ho]) rfl

theorem RingPort.law_blank : RingPort.blank.Law :=
  RingPort.law_of_empty rfl (fun _ => rfl) rfl

/-! ## The events (R157 to R174) -/

theorem State.Mild.law {s t : State} (h : s.Mild t) (w : s.port.Law) : t.port.Law := h.port.law w

section state
variable {s : State} (w : s.port.Law)
include w

/-- R167, R168: a failed passage of a frame in flight. -/
theorem law_failedPassage {x : Flight} (hx : x ∈ s.port.flights) : (s.failedPassage x).port.Law := by
  unfold State.failedPassage; dsimp only
  split
  · exact w.reinject hx
  · exact ((State.Mild.refl _).report x.frame false).law (w.advance hx)

/-- R166: an own frame that returns. -/
theorem law_ownReturn (f : Frame) : (s.ownReturn f).port.Law := by
  unfold State.ownReturn; split
  case h_1 => exact w
  case h_2 x hx =>
    have hmem := List.mem_of_find?_eq_some hx
    split
    · exact ((State.Mild.refl _).report x.frame true).law (w.advance hmem)
    · exact law_failedPassage w hmem

theorem law_returnExpiry (seq : Byte) : (s.returnExpiry seq).port.Law := by
  unfold State.returnExpiry; split
  case h_1 x hx =>
    split
    · exact law_failedPassage w (List.mem_of_find?_eq_some hx)
    · exact w
  case h_2 => exact w

theorem law_store (f : Frame) (taken : Bool) : (s.store f taken).port.Law := w.congr rfl (fun _ => rfl) rfl
theorem law_active : s.active.port.Law := w.congr rfl (fun _ => rfl) rfl

/-- R160, R161: a valid frame classified. -/
theorem law_classify (f : Frame) : (s.classify f).port.Law := by
  unfold State.classify; split
  · exact law_ownReturn w f
  · split
    · exact law_store (((State.Mild.refl s).handle f).law w) _ _
    · exact law_store w _ _

/-- R172: the monitor goes UP. -/
theorem law_ringUp : s.ringUp.port.Law := by
  have up : (s.updPort fun p => { p with monitor := .up }).port.Law := w.congr rfl (fun _ => rfl) rfl
  exact (State.Mild.refl _).abortResync.endEvent.law up

theorem law_validFrame (f : Frame) : (s.validFrame f).port.Law := by
  have found : (if s.active.port.monitor = .down then s.active.ringUp else s.active).port.Law := by
    split
    · exact law_ringUp (law_active w)
    · exact law_active w
  exact (State.Mild.refl _).endEvent.law (law_classify (((State.Mild.refl _).clearOffline f.src).law found) f)

/-- R158: a frame whose last byte has arrived. -/
theorem law_arrive (f : Option Frame) : (s.arrive f).port.Law := by
  unfold State.arrive; split
  case h_1 => exact law_active (s := s.tally .overruns) w
  case h_2 places _ =>
    have placed : ((s.updPort fun p => { p with transit := places }).tally .received).port.Law :=
      w.congr rfl (fun _ => rfl) rfl
    dsimp only
    split
    · split
      · exact law_validFrame placed _
      · exact law_active (s := State.tally _ _) placed
    · exact law_active (s := State.tally _ _) placed

theorem law_beginArrival : s.beginArrival.port.Law := by
  unfold State.beginArrival; split
  · exact w.congr rfl (fun _ => rfl) rfl
  · exact law_active (s := s.tally .overruns) w

/-- Every event keeps the law of the sources. -/
theorem law_event {t : State} (h : s.Event t) : t.port.Law := by
  have m := State.Mild.refl s
  cases h with
  | restarts => exact RingPort.law_blank
  | begins => exact law_beginArrival w
  | active => exact law_active w
  | arrives f => exact law_arrive w f
  | returns seq => exact (State.Mild.refl _).endEvent.law (law_returnExpiry w seq)
  | arbitrates =>
    unfold State.arbitrate; split
    case h_1 ho => exact w.arbitrate ho _
    case h_2 => exact w
  | sends => exact w.sent _
  | forwards => exact w.forwarded
  | loses =>
    split
    · exact (State.Mild.refl _).blocksLoss.law s.port.law_loss
    · exact w
  | writes => exact m.writeComplete.law w
  | scans =>
    split
    · exact m.scan.law w
    · exact w
  | zeroExpires i => exact (m.zeroExpiry i).endEvent.law w
  | stepExpires i => exact (m.stepExpiry i).endEvent.law w
  | holdExpires i => exact (m.phaseEndExpiry i _).endEvent.law w
  | settleExpires i => exact (m.phaseEndExpiry i _).endEvent.law w
  | checks i => exact (m.extensionExpiry i).endEvent.law w
  | ventExpires i => exact (m.ventExpiry i).endEvent.law w
  | releaseExpires i => exact (m.releaseExpiry i).endEvent.law w
  | actExpires a => exact (m.actExpiry a).law w

end state

/-- Settles O8: the law, as a law of the Ring Port, is kept by each event. -/
theorem everyStepKeepsThePortLaw : Obligations.EveryStepKeepsThePortLaw := by
  intro s t h hst
  exact step_keeps (P := fun s => s.port.Law) (fun _ _ w => w) (fun _ _ w => w) (fun w e => law_event w e) h hst

end Sys2Proof.Machine
end


section
/-!
PROOFS. The capacities kept by every step: R162's law of the sources bounds the Inject Queue and the list of frames in
flight, and the events keep the Transit Buffer, the arbiter's count and the collections of the other blocks within theirs.
-/

namespace Sys2Proof.Machine

/-! ## One frame of each source (R162) -/

/-- A list that holds at most one item of each of the thirteen sources. -/
theorem length_le_of_one_of_each {α : Type} {l : List α} {src : α → Src} (h : ∀ k, l.countP (fun x => src x == k) ≤ 1) :
    l.length ≤ 13 := by
  have nodup : (l.map src).Nodup := List.nodup_iff_count_le_one.mpr fun k => by
    rw [List.count, List.countP_map]; exact h k
  have hcard := (nodup.map Src.idx_injective).length_le_card
  simpa using hcard

theorem RingPort.Law.queue_le {p : RingPort} (h : p.Law) : p.queue.length ≤ 13 :=
  length_le_of_one_of_each fun k => (Nat.le_add_right ..).trans (h k).le_one.1

theorem RingPort.Law.flights_le {p : RingPort} (h : p.Law) : p.flights.length ≤ 13 :=
  length_le_of_one_of_each (src := fun x : Flight => x.frame.src) fun k => (h k).le_one.2

/-! ## The Transit Buffer and the arbiter's count (R158, R165) -/

theorem RingPort.Offered.transit_row {p p' : RingPort} (h : p.Offered p') : p'.transit = p.transit ∧ p'.row = p.row := by
  induction h with
  | refl => exact ⟨rfl, rfl⟩
  | offer _ q ih => simpa using ih
  | emptySlot _ k ih => exact ih

/-- The collections outside the sources are within their sizes, the Transit Buffer with `n` places held at most. -/
def State.Sized (n : Nat) (s : State) : Prop := s.Roomy ∧ s.port.transit.length ≤ n ∧ s.port.row ≤ 4

theorem State.Mild.sized {s t : State} {n : Nat} (h : s.Mild t) (w : s.Sized n) : t.Sized n := by
  obtain ⟨hr, ht, hw⟩ := w
  refine ⟨h.room hr, ?_, ?_⟩
  · rwa [h.port.transit_row.1]
  · rwa [h.port.transit_row.2]

theorem State.Sized.mono {s : State} {m n : Nat} (w : s.Sized m) (h : m ≤ n) : s.Sized n := ⟨w.1, w.2.1.trans h, w.2.2⟩

/-- R158: the frame that completes its arrival leaves room for itself. -/
theorem takePlace_length {t places : List Place} (h : takePlace t = some places) (ht : t.length ≤ 4) :
    places.length ≤ 3 := by
  unfold takePlace at h
  split at h
  case isTrue ha =>
    cases h
    rw [List.any_eq_true] at ha
    obtain ⟨x, hx, hp⟩ := ha
    rw [List.length_eraseP_of_mem hx hp]
    omega
  case isFalse =>
    split at h
    · cases h; omega
    · cases h

theorem markLeaving_length (t : List Place) : (markLeaving t).length = t.length := by
  induction t with
  | nil => rfl
  | cons x t ih => cases x <;> simp [markLeaving, ih]

theorem dropLeaving_length (t : List Place) : (dropLeaving t).length ≤ t.length := by
  induction t with
  | nil => exact Nat.le_refl _
  | cons x t ih => cases x <;> simp [dropLeaving] <;> omega

/-- R165: the count after the arbiter's choice is at most 4. -/
theorem arbitrate_sizes (own : Byte) {p : RingPort} (ht : p.transit.length ≤ 4) :
    (p.arbitrate own).transit.length ≤ 4 ∧ (p.arbitrate own).row ≤ 4 := by
  unfold RingPort.arbitrate; split
  case h_1 => simpa [RingPort.sendTransit, markLeaving_length] using ht
  case h_2 =>
    split
    case isTrue hlt => exact ⟨by simpa [RingPort.sendTransit, markLeaving_length] using ht, hlt⟩
    case isFalse => exact ⟨ht, Nat.zero_le _⟩
  case h_3 => exact ⟨ht, Nat.zero_le _⟩
  case h_4 => exact ⟨ht, Nat.zero_le _⟩

/-! ## The events -/

/-- After a power-on reset every collection is empty and every tally 0 (R62, R133, R173, R182). -/
theorem sized_restart (s : State) : s.restart.Sized 4 := by
  refine ⟨⟨Nat.zero_le _, ⟨Nat.zero_le _, fun a => by cases a <;> exact Nat.zero_le _⟩, fun i => ?_, ?_⟩,
    Nat.zero_le _, Nat.zero_le _⟩
  · simp [State.station, State.restart, State.powerOn, Station.blank]
  · rw [Tallies.fit_iff]; simp [State.restart, State.powerOn, Tallies.zero]

section state
variable {n : Nat} {s : State} (w : s.Sized n)
include w

theorem sized_failedPassage (x : Flight) : (s.failedPassage x).Sized n := by
  have counted : (s.tally .notTaken).Sized n := ((State.Mild.refl s).tally _).sized w
  unfold State.failedPassage; dsimp only
  split
  · exact counted
  · refine ((State.Mild.refl _).report ..).sized ?_
    unfold State.dropFlight RingPort.advance State.updPort; dsimp only
    split <;> exact counted

theorem sized_ownReturn (f : Frame) : (s.ownReturn f).Sized n := by
  unfold State.ownReturn; split
  · exact ((State.Mild.refl s).ignored).sized w
  · split
    · refine ((State.Mild.refl _).report ..).sized ?_
      unfold State.dropFlight RingPort.advance State.updPort; dsimp only
      split <;> exact w
    · exact sized_failedPassage w _

theorem sized_returnExpiry (seq : Byte) : (s.returnExpiry seq).Sized n := by
  unfold State.returnExpiry; split
  · split
    · exact sized_failedPassage w _
    · exact w
  · exact w

theorem sized_store (f : Frame) (taken : Bool) : (s.store f taken).Sized (n + 1) :=
  ⟨w.1, by simpa [State.store] using w.2.1, w.2.2⟩

theorem sized_classify (f : Frame) : (s.classify f).Sized (n + 1) := by
  unfold State.classify; split
  · exact (sized_ownReturn w f).mono (Nat.le_succ n)
  · split
    · exact sized_store (((State.Mild.refl s).handle f).sized w) ..
    · exact sized_store w ..

theorem sized_ringUp : s.ringUp.Sized n :=
  (State.Mild.refl _).abortResync.endEvent.sized (s := s.updPort fun p => { p with monitor := .up }) w

theorem sized_validFrame (f : Frame) : (s.validFrame f).Sized (n + 1) := by
  have found : (if s.active.port.monitor = .down then s.active.ringUp else s.active).Sized n := by
    split
    · exact sized_ringUp (s := s.active) w
    · exact w
  exact (State.Mild.refl _).endEvent.sized (sized_classify (((State.Mild.refl _).clearOffline f.src).sized found) f)

end state

section state
variable {s : State} (w : s.Sized 4)
include w

theorem sized_arrive (f : Option Frame) : (s.arrive f).Sized 4 := by
  unfold State.arrive; split
  case h_1 => exact ((State.Mild.refl s).tally .overruns).sized w
  case h_2 places hp =>
    have placed : (s.updPort fun p => { p with transit := places }).Sized 3 := ⟨w.1, takePlace_length hp w.2.1, w.2.2⟩
    have counted := ((State.Mild.refl _).tally .received).sized placed
    have failed : (State.checkFailed ((s.updPort fun p => { p with transit := places }).tally .received)).Sized 4 :=
      ((((State.Mild.refl _).tally .checkFailures).sized counted).mono (by decide) : State.Sized 4 (State.tally _ _))
    dsimp only
    split
    · split
      · exact sized_validFrame counted _
      · exact failed
    · exact failed

/-- Every event keeps the sizes. -/
theorem sized_event {t : State} (h : s.Event t) : t.Sized 4 := by
  have m := State.Mild.refl s
  cases h with
  | restarts => exact sized_restart s
  | begins =>
    unfold State.beginArrival; split
    case isTrue hl => exact ⟨w.1, by simpa using hl, w.2.2⟩
    case isFalse => exact (m.tally .overruns).sized w
  | active => exact w
  | arrives f => exact sized_arrive w f
  | returns seq => exact (State.Mild.refl _).endEvent.sized (sized_returnExpiry w seq)
  | arbitrates =>
    unfold State.arbitrate; split
    · exact ⟨w.1, arbitrate_sizes _ w.2.1⟩
    · exact w
  | sends =>
    refine ⟨w.1, ?_⟩
    simp only [State.updPort_port]
    unfold RingPort.sent; split <;> exact w.2
  | forwards =>
    refine ⟨w.1, ?_⟩
    simp only [State.updPort_port]
    unfold RingPort.forwarded; split
    · exact ⟨(dropLeaving_length _).trans w.2.1, w.2.2⟩
    · exact w.2
  | loses =>
    split
    · exact (State.Mild.refl _).blocksLoss.sized (s := s.updPort RingPort.loss) ⟨w.1, w.2.1, Nat.zero_le _⟩
    · exact w
  | writes => exact m.writeComplete.sized w
  | scans =>
    split
    · exact m.scan.sized w
    · exact w
  | zeroExpires i => exact (m.zeroExpiry i).endEvent.sized w
  | stepExpires i => exact (m.stepExpiry i).endEvent.sized w
  | holdExpires i => exact (m.phaseEndExpiry i _).endEvent.sized w
  | settleExpires i => exact (m.phaseEndExpiry i _).endEvent.sized w
  | checks i => exact (m.extensionExpiry i).endEvent.sized w
  | ventExpires i => exact (m.ventExpiry i).endEvent.sized w
  | releaseExpires i => exact (m.releaseExpiry i).endEvent.sized w
  | actExpires a => exact (m.actExpiry a).sized w

end state

/-- Settles O5: the Inject Queue and the frames in flight are bounded by the law of the sources after the step, the rest by
the sizes that each event keeps. -/
theorem everyStepKeepsTheBounds : Obligations.EveryStepKeepsTheBounds := by
  intro s t ⟨htr, _, _, hrow, hno, hro, hml, hsl, hwin, htal⟩ hlaw hst
  have sized : s.Sized 4 := ⟨⟨hno, ⟨hro, fun a => by cases a <;> assumption⟩, hwin, htal⟩, htr, hrow⟩
  obtain ⟨⟨hno', ⟨hro', hlist⟩, hwin', htal'⟩, htr', hrow'⟩ :=
    step_keeps (P := State.Sized 4) (fun _ _ w => w) (fun _ _ w => w) (fun w e => sized_event w e) sized hst
  have law : t.port.Law := everyStepKeepsThePortLaw s t hlaw hst
  exact ⟨htr', law.queue_le.trans (by decide), law.flights_le, hrow', hno', hro', hlist .press, hlist .scrapCell, hwin',
    htal'⟩

end Sys2Proof.Machine
end


section
/-!
PROOFS. The laws of the records and of the banks as laws of a view of the state: what they read of each record, each list,
each station, each dispatcher and each bank. A record changes its place in two moves: it is taken from the place its state
names, and is put where its new state says.
-/

namespace Sys2Proof.Machine

/-! ## The view -/

/-- What the laws read of a record. -/
structure RecKey where
  serial : List Byte
  state : RecState
  seated : Bool
  bank : Option BankRef

/-- What the laws read of a bank. -/
structure BankKey where
  state : BankState
  gen : Byte
  refs : Nat

/-- What the laws of the records and of the banks read of a state; `flying` is the record of an actuator's order in
flight. -/
structure View where
  recs : RecNo → Option RecKey
  lists : Actuator → List RecNo
  closed : List RecNo
  held : StationNo → Option RecNo
  testing : StationNo → Bool
  flying : Actuator → Option RecNo
  banks : BankId → BankKey

def Record.key (r : Record) : RecKey := ⟨r.serial, r.state, r.seatedFrom.isSome, r.bank⟩

def Bank.key (b : Bank) : BankKey := ⟨b.state, b.gen, b.refs⟩

/-- R143, R152: the record of the order that a dispatcher waits for. -/
def ActDispatcher.flying : ActDispatcher → Option RecNo
  | .acting c => some c.record
  | _ => none

def State.view (s : State) : View where
  recs n := (s.getRec n).map Record.key
  lists := s.dispatch.list
  closed := s.records.closed
  held i := (s.station i).record
  testing i := (s.station i).testing
  flying a := (s.dispatch.disp a).flying
  banks k := (s.banks.get k).key

namespace View

def st (v : View) (n : RecNo) : Option RecState := (v.recs n).map (·.state)

/-! ## The laws of a view -/

/-- R22, R30, R65, R135, R143: a record is in every place its state names, and in no other. -/
structure LawAt (v : View) (n : RecNo) : Prop where
  listed : ∀ a, n ∈ v.lists a ↔ v.st n = some a.pendingState
  closed : n ∈ v.closed ↔ (v.st n).any RecState.isClosed = true
  tested : (∃ i, v.held i = some n) ↔ v.st n = some .onTest
  flying : ∀ a, v.flying a = some n ↔ v.st n = some a.atState
  seated : ∀ k, v.recs n = some k → k.seated = (k.state == .onTest)

/-- The laws of the places themselves: none holds a record twice, a station holds one exactly while testing, and no serial is
held twice. -/
structure Sound (v : View) : Prop where
  lists : ∀ a, (v.lists a).Nodup
  closed : v.closed.Nodup
  testing : ∀ i, (v.held i).isSome = v.testing i
  apart : ∀ i j n, v.held i = some n → v.held j = some n → i = j
  serial : ∀ m n k q, v.recs m = some k → v.recs n = some q → k.serial = q.serial → m = n

/-- The record law of a view. -/
structure RecLaw (v : View) : Prop where
  sound : v.Sound
  at_ : ∀ n, v.LawAt n

/-- A record is in no place. -/
structure Nowhere (v : View) (n : RecNo) : Prop where
  listed : ∀ a, n ∉ v.lists a
  closed : n ∉ v.closed
  tested : ∀ i, v.held i ≠ some n
  flying : ∀ a, v.flying a ≠ some n

/-- A record on its way from one place to another: it is in none, and the law holds of every other. -/
structure Out (v : View) (n : RecNo) : Prop where
  sound : v.Sound
  others : ∀ m, m ≠ n → v.LawAt m
  nowhere : v.Nowhere n

/-- R11, R12: exactly one bank ACTIVE. -/
def OneActive (v : View) : Prop := (v.banks .a).state = .active ↔ (v.banks .b).state ≠ .active

/-- The number of records that name a bank. -/
def named (v : View) (k : BankId) : Nat :=
  (List.finRange 128).countP fun n => (v.recs n).any fun r => r.bank.any fun b => b.bank == k

/-- R22: a record names a bank exactly while its state references one, and with the bank's generation. -/
def Refers (v : View) (r : RecKey) : Prop :=
  r.bank.isSome = r.state.references ∧ ∀ b, r.bank = some b → b.gen = (v.banks b.bank).gen

/-- The bank law of a view. -/
structure BankLaw (v : View) : Prop where
  one : v.OneActive
  refs : ∀ k, (v.banks k).refs = v.named k
  standby : ∀ k, (v.banks k).state = .standby → (v.banks k).refs = 0
  refers : ∀ n r, v.recs n = some r → v.Refers r

/-- The record law and, under a premise, the bank law; the premise is the bank law of the state that a step starts from. -/
structure Lawful (B : Prop) (v : View) : Prop where
  recs : v.RecLaw
  banks : B → v.BankLaw

/-- The same of a view with a record on its way. -/
structure Away (B : Prop) (n : RecNo) (v : View) : Prop where
  out : v.Out n
  banks : B → v.BankLaw

end View

/-! ## The laws of the state are those of its view -/

theorem stateOf_view (s : State) (n : RecNo) : s.view.st n = s.stateOf n := by
  simp only [View.st, State.view, State.stateOf, Option.map_map]; rfl

theorem view_flying_iff (s : State) (a : Actuator) (n : RecNo) :
    s.view.flying a = some n ↔ ∃ c, s.dispatch.disp a = .acting c ∧ c.record = n := by
  simp only [State.view]
  cases s.dispatch.disp a <;> simp [ActDispatcher.flying]

theorem view_recs_iff (s : State) (n : RecNo) (k : RecKey) :
    s.view.recs n = some k ↔ ∃ r, s.getRec n = some r ∧ r.key = k := by
  simp [State.view]

/-- The record law is the law of the view. -/
theorem recordLaw_iff (s : State) : s.RecordLaw ↔ s.view.RecLaw := by
  constructor
  · rintro ⟨⟨hpn, hp⟩, ⟨hsn, hs⟩, ⟨hcn, hc⟩, ⟨ht, hon, hapart, hall, hseat⟩, hfp, hfs, hser⟩
    have hlist (a : Actuator) : s.ListLaw a := by cases a; exacts [⟨hpn, hp⟩, ⟨hsn, hs⟩]
    have hfly (a : Actuator) : s.FlightLaw a := by cases a <;> assumption
    refine ⟨⟨fun a => (hlist a).1, hcn, ht, hapart, ?_⟩, fun n => ⟨fun a => ?_, ?_, ?_, fun a => ?_, ?_⟩⟩
    · intro m n k q hk hq e
      obtain ⟨r, hr, rfl⟩ := (view_recs_iff ..).mp hk
      obtain ⟨x, hx, rfl⟩ := (view_recs_iff ..).mp hq
      exact hser m n r x hr hx e
    · rw [stateOf_view]; exact (hlist a).2 n
    · rw [stateOf_view]; exact hc n
    · rw [stateOf_view]; exact ⟨fun ⟨i, hi⟩ => hon i n hi, hall n⟩
    · rw [stateOf_view, view_flying_iff]
      exact ⟨fun ⟨c, hc, e⟩ => e ▸ (hfly a).1 c hc, (hfly a).2 n⟩
    · intro k hk
      obtain ⟨r, hr, rfl⟩ := (view_recs_iff ..).mp hk
      exact hseat n r hr
  · rintro ⟨⟨hl, hcn, ht, hapart, hser⟩, hat⟩
    have hlist (a : Actuator) : s.ListLaw a := ⟨hl a, fun n => by rw [← stateOf_view]; exact (hat n).listed a⟩
    have hfly (a : Actuator) : s.FlightLaw a := by
      refine ⟨fun c hc => ?_, fun n hn => ?_⟩
      · rw [← stateOf_view]; exact ((hat _).flying a).mp ((view_flying_iff ..).mpr ⟨c, hc, rfl⟩)
      · rw [← stateOf_view] at hn; exact (view_flying_iff ..).mp (((hat n).flying a).mpr hn)
    refine ⟨hlist .press, hlist .scrapCell, ⟨hcn, fun n => ?_⟩, ⟨ht, fun i n hi => ?_, hapart, fun n hn => ?_, ?_⟩,
      hfly .press, hfly .scrapCell, ?_⟩
    · rw [← stateOf_view]; exact (hat n).closed
    · rw [← stateOf_view]; exact (hat n).tested.mp ⟨i, hi⟩
    · rw [← stateOf_view] at hn; exact (hat n).tested.mpr hn
    · intro n r hr; exact (hat n).seated r.key ((view_recs_iff ..).mpr ⟨r, hr, rfl⟩)
    · intro m n r q hr hq e
      exact hser m n _ _ ((view_recs_iff ..).mpr ⟨r, hr, rfl⟩) ((view_recs_iff ..).mpr ⟨q, hq, rfl⟩) e

theorem named_view (s : State) (k : BankId) : s.view.named k = s.named k := by
  simp only [View.named, State.named, State.view, Option.any_map]; rfl

/-- The bank law is the law of the view. -/
theorem bankLaw_iff (s : State) : s.BankLaw ↔ s.view.BankLaw := by
  constructor
  · rintro ⟨h1, hk, hr⟩
    refine ⟨h1, fun k => by rw [named_view]; exact (hk k).1, fun k => (hk k).2, fun n q hq => ?_⟩
    obtain ⟨r, hr', rfl⟩ := (view_recs_iff ..).mp hq
    exact hr n r hr'
  · rintro ⟨h1, hrefs, hst, hr⟩
    refine ⟨h1, fun k => ⟨by rw [← named_view]; exact hrefs k, hst k⟩, fun n r h => ?_⟩
    exact hr n r.key ((view_recs_iff ..).mpr ⟨r, h, rfl⟩)

namespace View

/-! ## Updates of a view -/

/-- A record's number written. -/
def setRec (v : View) (n : RecNo) (r : Option RecKey) : View := { v with recs := Function.update v.recs n r }

/-- R65, R66: a station with no test. -/
def release (v : View) (i : StationNo) : View :=
  { v with held := Function.update v.held i none, testing := Function.update v.testing i false }

def setList (v : View) (a : Actuator) (l : List RecNo) : View := { v with lists := Function.update v.lists a l }

def setFlying (v : View) (a : Actuator) (o : Option RecNo) : View := { v with flying := Function.update v.flying a o }

@[simp] theorem setRec_recs_self (v : View) (n : RecNo) (r : Option RecKey) : (v.setRec n r).recs n = r :=
  Function.update_self ..
theorem setRec_recs_ne (v : View) {n m : RecNo} (h : m ≠ n) (r : Option RecKey) : (v.setRec n r).recs m = v.recs m :=
  Function.update_of_ne h ..

/-! ## Agreement at a record -/

/-- Two views say the same of a record and of its places. -/
structure SameAt (v w : View) (n : RecNo) : Prop where
  recs : w.recs n = v.recs n
  listed : ∀ a, n ∈ w.lists a ↔ n ∈ v.lists a
  closed : n ∈ w.closed ↔ n ∈ v.closed
  tested : ∀ i, w.held i = some n ↔ v.held i = some n
  flying : ∀ a, w.flying a = some n ↔ v.flying a = some n

theorem LawAt.of_same {v w : View} {n : RecNo} (h : v.LawAt n) (e : v.SameAt w n) : w.LawAt n := by
  have hst : w.st n = v.st n := congrArg (Option.map _) e.recs
  refine ⟨fun a => ?_, ?_, ?_, fun a => ?_, ?_⟩
  · rw [e.listed, hst]; exact h.listed a
  · rw [e.closed, hst]; exact h.closed
  · rw [hst, ← h.tested]; simp only [e.tested]
  · rw [e.flying, hst]; exact h.flying a
  · rw [e.recs]; exact h.seated

theorem Nowhere.of_same {v w : View} {n : RecNo} (h : v.Nowhere n) (hl : ∀ a, n ∈ w.lists a → n ∈ v.lists a)
    (hc : n ∈ w.closed → n ∈ v.closed) (ht : ∀ i, w.held i = some n → v.held i = some n)
    (hf : ∀ a, w.flying a = some n → v.flying a = some n) : w.Nowhere n :=
  ⟨fun a => h.listed a ∘ hl a, h.closed ∘ hc, fun i => h.tested i ∘ ht i, fun a => h.flying a ∘ hf a⟩

/-! ## A record is taken from its place -/

/-- The states without a place: no list, no station, no dispatcher (R135, R136). -/
def loose (s : RecState) : Bool := s ∈ [RecState.identified, .inspected, .retestWait, .hold]

theorem loose_iff (s : RecState) : loose s = true ↔ s = .identified ∨ s = .inspected ∨ s = .retestWait ∨ s = .hold := by
  simp [loose]

/-- A free number, and a record in a state without a place, are nowhere. -/
theorem LawAt.nowhere {v : View} {n : RecNo} (h : v.LawAt n) (hs : (v.st n).all loose = true) : v.Nowhere n := by
  have hne {x : RecState} (hx : loose x = false) : v.st n ≠ some x := fun e => by simp [e, hx] at hs
  refine ⟨fun a e => ?_, fun e => ?_, fun i e => ?_, fun a e => ?_⟩
  · exact hne (by cases a <;> rfl) ((h.listed a).mp e)
  · obtain ⟨x, hx, hc⟩ := (Option.any_eq_true ..).mp (h.closed.mp e)
    exact hne (by cases x <;> first | rfl | cases hc) hx
  · exact hne rfl (h.tested.mp ⟨i, e⟩)
  · exact hne (by cases a <;> rfl) ((h.flying a).mp e)

theorem RecLaw.out {v : View} (h : v.RecLaw) {n : RecNo} (hs : (v.st n).all loose = true) : v.Out n :=
  ⟨h.sound, fun m _ => h.at_ m, (h.at_ n).nowhere hs⟩

/-- Every law speaks of other places than the one a record of a given state is in. -/
theorem LawAt.places {v : View} {n : RecNo} (h : v.LawAt n) {x : RecState} (hx : v.st n = some x) :
    (∀ a, x ≠ a.pendingState → n ∉ v.lists a) ∧ (x.isClosed = false → n ∉ v.closed)
      ∧ (x ≠ .onTest → ∀ i, v.held i ≠ some n) ∧ ∀ a, x ≠ a.atState → v.flying a ≠ some n := by
  refine ⟨fun a hne e => hne ?_, fun hc e => ?_, fun hne i e => hne ?_, fun a hne e => hne ?_⟩
  · simpa [hx] using (h.listed a).mp e
  · simpa [hx, hc] using h.closed.mp e
  · simpa [hx] using h.tested.mp ⟨i, e⟩
  · simpa [hx] using (h.flying a).mp e

/-- R66: a test ends: its record is on its way, and the station holds none. -/
theorem RecLaw.release_out {v : View} (h : v.RecLaw) {n : RecNo} {i : StationNo} (hi : v.held i = some n) :
    (v.release i).Out n := by
  obtain ⟨hl, hc, -, hf⟩ := (h.at_ n).places ((h.at_ n).tested.mp ⟨i, hi⟩)
  have held {j : StationNo} (hj : j ≠ i) : (v.release i).held j = v.held j := Function.update_of_ne hj ..
  have heldi : (v.release i).held i = none := Function.update_self ..
  refine ⟨⟨h.sound.lists, h.sound.closed, fun j => ?_, fun j k m hj hk => ?_, h.sound.serial⟩, fun m hm => ?_, ?_⟩
  · by_cases hj : j = i
    · subst hj; simp [release]
    · simpa [release, hj] using h.sound.testing j
  · have hj' : j ≠ i := by rintro rfl; simp [heldi] at hj
    have hk' : k ≠ i := by rintro rfl; simp [heldi] at hk
    exact h.sound.apart j k m (held hj' ▸ hj) (held hk' ▸ hk)
  · refine (h.at_ m).of_same ⟨rfl, fun _ => .rfl, .rfl, fun j => ?_, fun _ => .rfl⟩
    by_cases hj : j = i
    · subst hj; simp [heldi, hi, Ne.symm hm]
    · rw [held hj]
  · refine ⟨fun a => hl a (by cases a <;> decide), hc rfl, fun j e => ?_, fun a => hf a (by cases a <;> decide)⟩
    by_cases hj : j = i
    · subst hj; simp [heldi] at e
    · exact hj (h.sound.apart j i n (held hj ▸ e) hi)

/-- A station without a test is as a released one. -/
theorem Sound.release_idle {v : View} (h : v.Sound) {i : StationNo} (hi : v.held i = none) : v.release i = v := by
  have ht : v.testing i = false := by rw [← h.testing, hi]; rfl
  simp only [release]
  rw [← hi, ← ht, Function.update_eq_self, Function.update_eq_self]

/-- R135: a listed record leaves its list. -/
theorem RecLaw.unlist_out {v : View} (h : v.RecLaw) {n : RecNo} {a : Actuator} (ha : n ∈ v.lists a) :
    (v.setList a ((v.lists a).filter fun m => m != n)).Out n := by
  have hx := ((h.at_ n).listed a).mp ha
  obtain ⟨hl, hc, ht, hf⟩ := (h.at_ n).places hx
  have mem (m : RecNo) (b : Actuator) :
      m ∈ (v.setList a ((v.lists a).filter fun m => m != n)).lists b ↔ m ∈ v.lists b ∧ (b = a → m ≠ n) := by
    by_cases hb : b = a
    · subst hb; simp [setList]
    · simp [setList, hb]
  refine ⟨⟨fun b => ?_, h.sound.closed, h.sound.testing, h.sound.apart, h.sound.serial⟩, fun m hm => ?_, ?_⟩
  · by_cases hb : b = a
    · subst hb; simpa [setList] using (h.sound.lists b).filter _
    · simpa [setList, hb] using h.sound.lists b
  · exact (h.at_ m).of_same ⟨rfl, fun b => by rw [mem]; simp [hm], .rfl, fun _ => .rfl, fun _ => .rfl⟩
  · refine ⟨fun b e => ?_, hc (by cases a <;> rfl), ht (by cases a <;> decide),
      fun b => hf b (by cases a <;> cases b <;> decide)⟩
    obtain ⟨e1, e2⟩ := (mem n b).mp e
    exact hl b (fun e => e2 (by cases a <;> cases b <;> first | rfl | cases e) rfl) e1

/-- R29, R30: a closed record's number leaves the Closed List. -/
theorem RecLaw.unclose_out {v : View} (h : v.RecLaw) {n : RecNo}
    (hn : (v.st n).all (fun x => loose x || x.isClosed) = true) :
    View.Out { v with closed := v.closed.filter fun m => m != n } n := by
  have others : ∀ m, m ≠ n → View.LawAt { v with closed := v.closed.filter fun m => m != n } m := fun m hm =>
    (h.at_ m).of_same ⟨rfl, fun _ => .rfl, by simp [hm], fun _ => .rfl, fun _ => .rfl⟩
  refine ⟨⟨h.sound.lists, h.sound.closed.filter _, h.sound.testing, h.sound.apart, h.sound.serial⟩, others, ?_⟩
  cases hx : v.st n with
  | none => exact ((h.at_ n).nowhere (by simp [hx])).of_same (fun _ => id) (by simp) (fun _ => id) fun _ => id
  | some x =>
    obtain ⟨hl, -, ht, hf⟩ := (h.at_ n).places hx
    rw [hx, Option.all_some] at hn
    have hne {y : RecState} (hy : (loose y || y.isClosed) = false) : x ≠ y := fun e => by simp [e, hy] at hn
    exact ⟨fun a => hl a (hne (by cases a <;> rfl)), by simp, ht (hne rfl), fun a => hf a (hne (by cases a <;> rfl))⟩

/-- R150, R151: the order in flight is over. -/
theorem RecLaw.land_out {v : View} (h : v.RecLaw) {n : RecNo} {a : Actuator} (ha : v.flying a = some n) :
    (v.setFlying a none).Out n := by
  obtain ⟨hl, hc, ht, hf⟩ := (h.at_ n).places (((h.at_ n).flying a).mp ha)
  refine ⟨⟨h.sound.lists, h.sound.closed, h.sound.testing, h.sound.apart, h.sound.serial⟩, fun m hm => ?_, ?_⟩
  · refine (h.at_ m).of_same ⟨rfl, fun _ => .rfl, .rfl, fun _ => .rfl, fun b => ?_⟩
    by_cases hb : b = a
    · subst hb; simp [setFlying, ha, Ne.symm hm]
    · simp [setFlying, hb]
  · refine ⟨fun b => hl b (by cases a <;> cases b <;> decide), hc (by cases a <;> rfl), ht (by cases a <;> decide),
      fun b => ?_⟩
    by_cases hb : b = a
    · subst hb; simp [setFlying]
    · have := hf b (by cases a <;> cases b <;> first | decide | exact absurd rfl hb)
      simpa [setFlying, hb] using this

/-! ## A record is put in its place -/

/-- The serial of a number's new record is its old one's, or no other record's (R24). -/
def Fresh (v : View) (n : RecNo) (r : Option RecKey) : Prop :=
  ∀ k, r = some k → ∀ m q, m ≠ n → v.recs m = some q → q.serial ≠ k.serial

theorem Sound.fresh {v : View} (h : v.Sound) {n : RecNo} {k q : RecKey} (hk : v.recs n = some k)
    (e : q.serial = k.serial) : v.Fresh n (some q) := by
  rintro _ ⟨⟩ m x hm hx es
  exact hm (h.serial m n x k hx hk (es.trans e))

theorem serial_setRec {v : View} (h : v.Sound) {n : RecNo} {r : Option RecKey} (hr : v.Fresh n r) :
    ∀ m m' k q, (v.setRec n r).recs m = some k → (v.setRec n r).recs m' = some q → k.serial = q.serial → m = m' := by
  intro m m' k q hk hq e
  by_cases hm : m = n <;> by_cases hm' : m' = n
  · rw [hm, hm']
  · subst hm
    rw [setRec_recs_self] at hk; rw [setRec_recs_ne v hm'] at hq
    exact absurd e.symm (hr k hk m' q hm' hq)
  · subst hm'
    rw [setRec_recs_self] at hq; rw [setRec_recs_ne v hm] at hk
    exact absurd e (hr q hq m k hm hk)
  · rw [setRec_recs_ne v hm] at hk; rw [setRec_recs_ne v hm'] at hq
    exact h.serial m m' k q hk hq e

/-- A record that is nowhere, in a state without a place, keeps the law. -/
theorem lawAt_loose {v : View} {n : RecNo} (h : v.Nowhere n)
    (hr : ∀ k, v.recs n = some k → loose k.state = true ∧ k.seated = false) : v.LawAt n := by
  cases hk : v.recs n with
  | none =>
    have hst : v.st n = none := by simp [st, hk]
    exact ⟨fun a => by simp [hst, h.listed a], by simp [hst, h.closed], by simp [hst, h.tested],
      fun a => by simp [hst, h.flying a], by simp [hk]⟩
  | some k =>
    obtain ⟨hl, hs⟩ := hr k hk
    have hst : v.st n = some k.state := by simp [st, hk]
    have hne {y : RecState} (hy : loose y = false) : k.state ≠ y := fun e => by simp [e, hy] at hl
    refine ⟨fun a => ?_, ?_, ?_, fun a => ?_, ?_⟩
    · simpa [hst, h.listed a] using hne (by cases a <;> rfl)
    · have : k.state.isClosed = false := by
        rcases (loose_iff _).mp hl with e | e | e | e <;> rw [e] <;> rfl
      simp [hst, h.closed, this]
    · simpa [hst, h.tested] using hne rfl
    · simpa [hst, h.flying a] using hne (by cases a <;> rfl)
    · intro q hq
      rw [hk] at hq; cases hq
      simpa [hs] using hne rfl

section put
variable {v : View} {n : RecNo} (h : v.Out n)
include h

/-- A number freed, or a record put in a state without a place. -/
theorem Out.put_loose {r : Option RecKey} (hf : v.Fresh n r)
    (hr : ∀ k, r = some k → loose k.state = true ∧ k.seated = false) : (v.setRec n r).RecLaw := by
  refine ⟨⟨h.sound.lists, h.sound.closed, h.sound.testing, h.sound.apart, serial_setRec h.sound hf⟩, fun m => ?_⟩
  by_cases hm : m = n
  · subst hm
    refine lawAt_loose (h.nowhere.of_same (fun _ => id) id (fun _ => id) fun _ => id) fun k hk => hr k ?_
    rwa [setRec_recs_self] at hk
  · exact (h.others m hm).of_same ⟨setRec_recs_ne v hm r, fun _ => .rfl, .rfl, fun _ => .rfl, fun _ => .rfl⟩

/-- R136: a record put at the end of an actuator's list. -/
theorem Out.put_list {k : RecKey} {a : Actuator} (hf : v.Fresh n (some k)) (hk : k.state = a.pendingState)
    (hs : k.seated = false) : ((v.setRec n (some k)).setList a (v.lists a ++ [n])).RecLaw := by
  have mem (m : RecNo) (b : Actuator) :
      m ∈ ((v.setRec n (some k)).setList a (v.lists a ++ [n])).lists b ↔ m ∈ v.lists b ∨ (b = a ∧ m = n) := by
    by_cases hb : b = a
    · subst hb; simp [setList]
    · simp [setList, setRec, hb]
  refine ⟨⟨fun b => ?_, h.sound.closed, h.sound.testing, h.sound.apart, serial_setRec h.sound hf⟩, fun m => ?_⟩
  · by_cases hb : b = a
    · subst hb
      simpa [setList] using (h.sound.lists b).concat (h.nowhere.listed b)
    · simpa [setList, setRec, hb] using h.sound.lists b
  · by_cases hm : m = n
    · subst hm
      have hst : ((v.setRec m (some k)).setList a (v.lists a ++ [m])).st m = some a.pendingState := by
        simp [st, setList, hk]
      refine ⟨fun b => ?_, ?_, ?_, fun b => ?_, ?_⟩
      · rw [mem, hst]
        simp only [h.nowhere.listed b, false_or, and_true]
        cases a <;> cases b <;> simp [Actuator.pendingState]
      · rw [hst]; simp only [Option.any_some]
        exact iff_of_false h.nowhere.closed (by cases a <;> decide)
      · rw [hst]; exact iff_of_false (fun ⟨i, e⟩ => h.nowhere.tested i e) (by cases a <;> decide)
      · rw [hst]; exact iff_of_false (h.nowhere.flying b) (by cases a <;> cases b <;> decide)
      · intro q hq
        have : (v.setRec m (some k)).recs m = some q := hq
        rw [setRec_recs_self] at this; cases this
        rw [hs, hk]; cases a <;> rfl
    · exact (h.others m hm).of_same
        ⟨setRec_recs_ne v hm _, fun b => by rw [mem]; simp [hm], .rfl, fun _ => .rfl, fun _ => .rfl⟩

/-- R29: a record closed, its number at the end of the Closed List. -/
theorem Out.put_closed {k : RecKey} (hf : v.Fresh n (some k)) (hk : k.state.isClosed = true) (hs : k.seated = false) :
    RecLaw { v.setRec n (some k) with closed := v.closed ++ [n] } := by
  have hne {y : RecState} (hy : y.isClosed = false) : k.state ≠ y := fun e => by simp [e, hy] at hk
  refine ⟨⟨h.sound.lists, ?_, h.sound.testing, h.sound.apart, serial_setRec h.sound hf⟩, fun m => ?_⟩
  · simpa using h.sound.closed.concat h.nowhere.closed
  · by_cases hm : m = n
    · subst hm
      have hst : View.st { v.setRec m (some k) with closed := v.closed ++ [m] } m = some k.state := by simp [st]
      refine ⟨fun b => ?_, ?_, ?_, fun b => ?_, ?_⟩
      · rw [hst]; exact iff_of_false (h.nowhere.listed b) (by simpa using hne (by cases b <;> rfl))
      · simp [hst, hk]
      · rw [hst]; exact iff_of_false (fun ⟨i, e⟩ => h.nowhere.tested i e) (by simpa using hne rfl)
      · rw [hst]; exact iff_of_false (h.nowhere.flying b) (by simpa using hne (by cases b <;> rfl))
      · intro q hq
        have : (v.setRec m (some k)).recs m = some q := hq
        rw [setRec_recs_self] at this; cases this
        simpa [hs] using hne rfl
    · exact (h.others m hm).of_same
        ⟨setRec_recs_ne v hm _, fun _ => .rfl, by simp [hm], fun _ => .rfl, fun _ => .rfl⟩

/-- R143, R145: a record at an actuator, its order in flight. -/
theorem Out.put_flying {k : RecKey} {a : Actuator} (hf : v.Fresh n (some k)) (hk : k.state = a.atState)
    (hs : k.seated = false) (ha : v.flying a = none) : ((v.setRec n (some k)).setFlying a (some n)).RecLaw := by
  have fly (m : RecNo) (b : Actuator) :
      ((v.setRec n (some k)).setFlying a (some n)).flying b = some m ↔ v.flying b = some m ∨ (b = a ∧ m = n) := by
    by_cases hb : b = a
    · subst hb; simp [setFlying, ha, eq_comm]
    · simp [setFlying, setRec, hb]
  refine ⟨⟨h.sound.lists, h.sound.closed, h.sound.testing, h.sound.apart, serial_setRec h.sound hf⟩, fun m => ?_⟩
  by_cases hm : m = n
  · subst hm
    have hst : ((v.setRec m (some k)).setFlying a (some m)).st m = some a.atState := by simp [st, setFlying, hk]
    refine ⟨fun b => ?_, ?_, ?_, fun b => ?_, ?_⟩
    · rw [hst]; exact iff_of_false (h.nowhere.listed b) (by cases a <;> cases b <;> decide)
    · rw [hst]; exact iff_of_false h.nowhere.closed (by cases a <;> decide)
    · rw [hst]; exact iff_of_false (fun ⟨i, e⟩ => h.nowhere.tested i e) (by cases a <;> decide)
    · rw [fly, hst]
      simp only [h.nowhere.flying b, false_or, and_true]
      cases a <;> cases b <;> simp [Actuator.atState]
    · intro q hq
      have : (v.setRec m (some k)).recs m = some q := hq
      rw [setRec_recs_self] at this; cases this
      rw [hs, hk]; cases a <;> rfl
  · exact (h.others m hm).of_same
      ⟨setRec_recs_ne v hm _, fun _ => .rfl, .rfl, fun _ => .rfl, fun b => by rw [fly]; simp [hm]⟩

/-- R65, R69: a record ON TEST at a station that holds none. -/
theorem Out.put_test {k : RecKey} {i : StationNo} (hf : v.Fresh n (some k)) (hk : k.state = .onTest)
    (hs : k.seated = true) (hi : v.held i = none) :
    RecLaw { v.setRec n (some k) with
      held := Function.update v.held i (some n), testing := Function.update v.testing i true } := by
  have held (m : RecNo) (j : StationNo) :
      Function.update v.held i (some n) j = some m ↔ v.held j = some m ∨ (j = i ∧ m = n) := by
    by_cases hj : j = i
    · subst hj; simp [hi, eq_comm]
    · simp [hj]
  refine ⟨⟨h.sound.lists, h.sound.closed, fun j => ?_, fun j j' m e e' => ?_, serial_setRec h.sound hf⟩, fun m => ?_⟩
  · by_cases hj : j = i
    · subst hj; simp
    · simpa [hj] using h.sound.testing j
  · rcases (held m j).mp e with hj | ⟨hj, hm⟩ <;> rcases (held m j').mp e' with hj' | ⟨hj', hm'⟩
    · exact h.sound.apart j j' m hj hj'
    · exact absurd (hm' ▸ hj) (h.nowhere.tested j)
    · exact absurd (hm ▸ hj') (h.nowhere.tested j')
    · rw [hj, hj']
  · by_cases hm : m = n
    · subst hm
      have hst : View.st { v.setRec m (some k) with
          held := Function.update v.held i (some m), testing := Function.update v.testing i true } m = some .onTest := by
        simp [st, hk]
      refine ⟨fun b => ?_, ?_, ?_, fun b => ?_, ?_⟩
      · rw [hst]; exact iff_of_false (h.nowhere.listed b) (by cases b <;> decide)
      · rw [hst]; exact iff_of_false h.nowhere.closed (by decide)
      · rw [hst]; exact iff_of_true ⟨i, Function.update_self ..⟩ rfl
      · rw [hst]; exact iff_of_false (h.nowhere.flying b) (by cases b <;> decide)
      · intro q hq
        have : (v.setRec m (some k)).recs m = some q := hq
        rw [setRec_recs_self] at this; cases this
        rw [hs, hk]; rfl
    · exact (h.others m hm).of_same
        ⟨setRec_recs_ne v hm _, fun _ => .rfl, .rfl, fun j => by rw [held]; simp [hm], fun _ => .rfl⟩

end put

/-! ## The banks (R11, R12, R14, R22) -/

/-- The bank a record names. -/
def bankAt (v : View) (n : RecNo) : Option BankRef := (v.recs n).bind (·.bank)

/-- R14: a bank's count moves by what one number names before and after. -/
theorem named_setRec (v : View) (n : RecNo) (r : Option RecKey) (k : BankId) :
    (v.setRec n r).named k + (if (v.bankAt n).any (fun b => b.bank == k) then 1 else 0)
      = v.named k + if ((v.setRec n r).bankAt n).any (fun b => b.bank == k) then 1 else 0 := by
  let p (w : View) (m : RecNo) : Bool := (w.recs m).any fun r => r.bank.any fun b => b.bank == k
  have hp (w : View) : (w.bankAt n).any (fun b => b.bank == k) = p w n := by
    simp only [bankAt, p]; cases w.recs n <;> simp
  have split (w : View) : w.named k
      = ((List.finRange 128).erase n).countP (p w) + if p w n then 1 else 0 := by
    have := (List.perm_cons_erase (List.mem_finRange n)).countP_eq (p w)
    rw [List.countP_cons] at this
    exact this
  have rest : ((List.finRange 128).erase n).countP (p (v.setRec n r)) = ((List.finRange 128).erase n).countP (p v) := by
    refine List.countP_congr fun m hm => ?_
    have hne : m ≠ n := by rintro rfl; exact (List.nodup_finRange 128).not_mem_erase hm
    simp only [p, setRec_recs_ne v hne]
  rw [hp, hp, split v, split (v.setRec n r), rest]
  omega

/-- The bank law reads the records and the banks alone. -/
theorem BankLaw.congr {v w : View} (h : v.BankLaw) (hr : w.recs = v.recs) (hb : w.banks = v.banks) : w.BankLaw := by
  obtain ⟨h1, h2, h3, h4⟩ := h
  exact ⟨by rwa [OneActive, hb], fun k => by rw [hb, h2]; simp only [named, hr], by rwa [hb],
    fun n r => by rw [hr, Refers, hb]; exact h4 n r⟩

/-- A record that names the same bank as before, or still none. -/
theorem BankLaw.setRec {v : View} (h : v.BankLaw) {n : RecNo} {r : Option RecKey} (hb : r.bind (·.bank) = v.bankAt n)
    (hr : ∀ k, r = some k → k.bank.isSome = k.state.references) : (v.setRec n r).BankLaw := by
  have hat : (v.setRec n r).bankAt n = v.bankAt n := by rw [bankAt, setRec_recs_self, hb]
  refine ⟨h.one, fun k => ?_, h.standby, fun m q hq => ?_⟩
  · have := named_setRec v n r k
    rw [hat] at this
    exact (h.refs k).trans (by omega)
  · by_cases hm : m = n
    · subst hm
      rw [setRec_recs_self] at hq
      refine ⟨hr q hq, fun b e => ?_⟩
      have : v.bankAt m = some b := by rw [← hb, hq]; exact e
      obtain ⟨x, hx, hxb⟩ := Option.bind_eq_some_iff.mp this
      exact (h.refers m x hx).2 b hxb
    · rw [setRec_recs_ne v hm] at hq
      exact h.refers m q hq

/-- R14, R18, R128: a record's reference released. -/
theorem BankLaw.drop {v : View} (h : v.BankLaw) {n : RecNo} {k : RecKey} {b : BankRef} (hb : v.bankAt n = some b)
    (hk : k.bank = none) (hs : k.state.references = false) {x : BankKey}
    (hx : x = ⟨if (v.banks b.bank).state = .retiring ∧ (v.banks b.bank).refs - 1 = 0 then .standby
      else (v.banks b.bank).state, (v.banks b.bank).gen, (v.banks b.bank).refs - 1⟩) :
    BankLaw { v.setRec n (some k) with banks := Function.update v.banks b.bank x } := by
  have hcount (j : BankId) : (v.setRec n (some k)).named j + (if b.bank = j then 1 else 0) = v.named j := by
    have := named_setRec v n (some k) j
    have hnone : (v.setRec n (some k)).bankAt n = none := by rw [bankAt, setRec_recs_self, Option.bind_some, hk]
    simpa [hb, hnone] using this
  have hpos : (v.banks b.bank).refs ≠ 0 := by
    have := hcount b.bank
    rw [h.refs]; simp at this; omega
  have hact (j : BankId) : (Function.update v.banks b.bank x j).state = .active ↔ (v.banks j).state = .active := by
    by_cases hj : j = b.bank
    · subst hj; rw [Function.update_self, hx]; dsimp only; split
      case isTrue e => simp [e.1]
      case isFalse => rfl
    · rw [Function.update_of_ne hj]
  refine ⟨?_, fun j => ?_, fun j => ?_, fun m q hq => ?_⟩
  · show (Function.update v.banks b.bank x .a).state = .active ↔ ¬ (Function.update v.banks b.bank x .b).state = .active
    rw [hact, hact]; exact h.one
  · show (Function.update v.banks b.bank x j).refs = (v.setRec n (some k)).named j
    have := hcount j
    have hr := h.refs j
    by_cases hj : j = b.bank
    · subst hj; rw [Function.update_self, hx]; simp at this ⊢; omega
    · rw [Function.update_of_ne hj, hr]; simp [Ne.symm hj] at this; omega
  · show (Function.update v.banks b.bank x j).state = .standby → (Function.update v.banks b.bank x j).refs = 0
    by_cases hj : j = b.bank
    · subst hj; rw [Function.update_self, hx]; dsimp only; split
      case isTrue e => exact fun _ => e.2
      case isFalse => exact fun e => absurd (h.standby _ e) hpos
    · rw [Function.update_of_ne hj]; exact h.standby j
  · have hgen (j : BankId) : (Function.update v.banks b.bank x j).gen = (v.banks j).gen := by
      by_cases hj : j = b.bank
      · subst hj; rw [Function.update_self, hx]
      · rw [Function.update_of_ne hj]
    by_cases hm : m = n
    · subst hm
      have : (v.setRec m (some k)).recs m = some q := hq
      rw [setRec_recs_self] at this; cases this
      exact ⟨by rw [hk, hs]; rfl, by simp [hk]⟩
    · have : (v.setRec n (some k)).recs m = some q := hq
      rw [setRec_recs_ne v hm] at this
      obtain ⟨h1, h2⟩ := h.refers m q this
      exact ⟨h1, fun c hc => (h2 c hc).trans (hgen c.bank).symm⟩

/-- R14, R38: a record takes a reference to the ACTIVE bank. -/
theorem BankLaw.take {v : View} (h : v.BankLaw) {n : RecNo} {k : RecKey} {j : BankId} (hb : v.bankAt n = none)
    (hj : (v.banks j).state = .active) (hk : k.bank = some ⟨j, (v.banks j).gen⟩) (hs : k.state.references = true) :
    BankLaw { v.setRec n (some k) with
      banks := Function.update v.banks j { v.banks j with refs := (v.banks j).refs + 1 } } := by
  have hcount (i : BankId) : (v.setRec n (some k)).named i = v.named i + if j = i then 1 else 0 := by
    have := named_setRec v n (some k) i
    have hat : (v.setRec n (some k)).bankAt n = some ⟨j, (v.banks j).gen⟩ := by
      rw [bankAt, setRec_recs_self, Option.bind_some, hk]
    simpa [hb, hat] using this
  have hsame (i : BankId) : let w := Function.update v.banks j { v.banks j with refs := (v.banks j).refs + 1 }
      (w i).state = (v.banks i).state ∧ (w i).gen = (v.banks i).gen
        ∧ (w i).refs = (v.banks i).refs + if j = i then 1 else 0 := by
    by_cases hi : i = j
    · subst hi; simp
    · simp [hi, Ne.symm hi]
  refine ⟨?_, fun i => ?_, fun i hst => ?_, fun m q hq => ?_⟩
  · have ha := (hsame .a).1; have hb' := (hsame .b).1
    simp only [OneActive, ha, hb']; exact h.one
  · exact (hsame i).2.2.trans (by rw [h.refs]; exact (hcount i).symm)
  · have hst' : (v.banks i).state = .standby := (hsame i).1.symm.trans hst
    have hne : j ≠ i := by rintro rfl; rw [hj] at hst'; cases hst'
    exact (hsame i).2.2.trans (by simp [hne, h.standby i hst'])
  · by_cases hm : m = n
    · subst hm
      have : (v.setRec m (some k)).recs m = some q := hq
      rw [setRec_recs_self] at this; cases this
      refine ⟨by rw [hk, hs]; rfl, fun c hc => ?_⟩
      rw [hk] at hc; cases hc
      exact (hsame j).2.1.symm
    · have : (v.setRec n (some k)).recs m = some q := hq
      rw [setRec_recs_ne v hm] at this
      obtain ⟨h1, h2⟩ := h.refers m q this
      exact ⟨h1, fun c hc => (h2 c hc).trans (hsame c.bank).2.1.symm⟩

/-- A record whose state references no bank names none. -/
theorem BankLaw.bankAt_none {v : View} (h : v.BankLaw) {n : RecNo} (hs : ∀ k, v.recs n = some k → k.state.references = false) :
    v.bankAt n = none := by
  cases hk : v.recs n with
  | none => simp [bankAt, hk]
  | some k =>
    have := (h.refers n k hk).1
    rw [hs k hk, Option.isSome_eq_false_iff, Option.isNone_iff_eq_none] at this
    simpa [bankAt, hk] using this

end View

end Sys2Proof.Machine
end


section
/-!
PROOFS. The operations of the model seen in the view: those that leave it as it is, and what the others do to a record, a
station, a list, a dispatcher or a bank.
-/

namespace Sys2Proof.Machine

/-! ## Updates that the view does not see -/

section quiet
variable (s : State)

@[simp] theorem view_updPort (f : RingPort → RingPort) : (s.updPort f).view = s.view := rfl
@[simp] theorem view_updMgmt (f : Management → Management) : (s.updMgmt f).view = s.view := rfl
@[simp] theorem view_offer (k : Src) (d : Byte) (b : Body) : (s.offer k d b).view = s.view := rfl
@[simp] theorem view_tallyBy (x : Tally) (k : Nat) : (s.tallyBy x k).view = s.view := rfl
@[simp] theorem view_tally (x : Tally) : (s.tally x).view = s.view := rfl
@[simp] theorem view_ignored : s.ignored.view = s.view := rfl
@[simp] theorem view_raiseOpen : s.raiseOpen.view = s.view := rfl
@[simp] theorem view_orderStation (i : StationNo) (o : Order) : (s.orderStation i o).view = s.view := rfl
@[simp] theorem view_store (f : Frame) (taken : Bool) : (s.store f taken).view = s.view := rfl
@[simp] theorem view_active : s.active.view = s.view := rfl
@[simp] theorem view_dropFlight (x : Flight) : (s.dropFlight x).view = s.view := rfl
@[simp] theorem view_setRole (i : Fin 62) (r : Role) : (s.setRole i r).view = s.view := rfl
@[simp] theorem view_setGate (g : Gate) : (s.setGate g).view = s.view := rfl
@[simp] theorem view_setOffline (a : Actuator) (x : Bool) : (s.setOffline a x).view = s.view := by cases a <;> rfl

/-- The view reads the lists and the dispatchers' orders of the Dispatch Unit. -/
theorem view_updDispatch {f : DispatchUnit → DispatchUnit} (hl : (f s.dispatch).list = s.dispatch.list)
    (hd : ∀ a, ((f s.dispatch).disp a).flying = (s.dispatch.disp a).flying) : (s.updDispatch f).view = s.view := by
  simp only [State.view, State.updDispatch_dispatch, hl, hd]; rfl

@[simp] theorem view_placeRoute (e : RouteEntry) : (s.placeRoute e).view = s.view := by
  unfold State.placeRoute
  exact view_updDispatch s (by split <;> rfl) fun a => by split <;> rfl

@[simp] theorem view_routeRec (n : RecNo) (lane : Lane) : (s.routeRec n lane).view = s.view := by
  unfold State.routeRec; split <;> simp

@[simp] theorem view_popRoute : s.popRoute.view = s.view := view_updDispatch s rfl fun _ => rfl

@[simp] theorem view_setStale (a : Actuator) (x : Bool) : (s.updDispatch (·.setStale a x)).view = s.view := by
  cases a <;> rfl

@[simp] theorem view_pumpRoute : s.pumpRoute.view = s.view := by
  rw [pumpRoute_eq]; rfl

@[simp] theorem view_pumpNotice : s.pumpNotice.view = s.view := by
  rw [pumpNotice_eq]; rfl

@[simp] theorem view_endEvent : s.endEvent.view = s.view := by simp [State.endEvent]

@[simp] theorem view_offerNotice (x : Notice) : (s.offerNotice x).view = s.view := by
  unfold State.offerNotice; split <;> rfl

@[simp] theorem view_clearOffline (addr : Byte) : (s.clearOffline addr).view = s.view := by
  unfold State.clearOffline; split <;> rfl

@[simp] theorem view_abortResync : s.abortResync.view = s.view := by
  unfold State.abortResync
  generalize List.finRange 8 = l
  induction l generalizing s with
  | nil => rfl
  | cons i l ih => rw [List.foldl_cons, ih]; split <;> rfl

end quiet

/-! ## Stations (R65, R66) -/

/-- What the view reads of a station that has changed. -/
theorem view_updStation (s : State) (i : StationNo) (f : Station → Station) :
    (s.updStation i f).view = { s.view with
      held := Function.update s.view.held i (f (s.station i)).record
      testing := Function.update s.view.testing i (f (s.station i)).testing } := by
  have reads {α : Type} (g : Station → α) : (fun j => g ((s.updStation i f).station j))
      = Function.update (fun j => g (s.station j)) i (g (f (s.station i))) := by
    funext j
    by_cases hj : j = i
    · subst hj; rw [station_updStation_self, Function.update_self]
    · rw [station_updStation_ne s (Ne.symm hj), Function.update_of_ne hj]
  simp only [State.view, reads Station.record, reads Station.testing]; rfl

/-- A station changed, its record and whether it tests as they were. -/
theorem view_updStation_same (s : State) (i : StationNo) {f : Station → Station}
    (hr : (f (s.station i)).record = (s.station i).record) (ht : (f (s.station i)).testing = (s.station i).testing) :
    (s.updStation i f).view = s.view := by
  rw [view_updStation, hr, ht]
  exact congrArg₂ (fun h t => { s.view with held := h, testing := t }) (Function.update_eq_self ..)
    (Function.update_eq_self ..)

/-- A station left without a test. -/
theorem view_updStation_release (s : State) (i : StationNo) {f : Station → Station}
    (hr : (f (s.station i)).record = none) (ht : (f (s.station i)).testing = false) :
    (s.updStation i f).view = s.view.release i := by
  rw [view_updStation, hr, ht]; rfl

/-- What a station is changed to does not show once it is released. -/
@[simp] theorem release_updStation (s : State) (i : StationNo) (f : Station → Station) :
    (s.updStation i f).view.release i = s.view.release i := by
  simp [view_updStation, View.release]

/-- A station without a record that is not testing is as a released one. -/
theorem view_release_self {s : State} {i : StationNo} (hr : (s.station i).record = none)
    (ht : (s.station i).testing = false) : s.view.release i = s.view := by
  have h1 : s.view.held i = none := hr
  have h2 : s.view.testing i = false := ht
  simp only [View.release]
  rw [← h1, ← h2, Function.update_eq_self, Function.update_eq_self]

@[simp] theorem release_release (v : View) (i : StationNo) : (v.release i).release i = v.release i := by
  simp [View.release]

theorem testing_of_state {st : Station} (h : st.state.inCycle = false) : st.testing = false := by
  simp [Station.testing, h]

@[simp] theorem view_enterVacant (s : State) (i : StationNo) : (s.enterVacant i).view = s.view.release i :=
  view_updStation_release s i rfl rfl
@[simp] theorem view_enterFaulted (s : State) (i : StationNo) : (s.enterFaulted i).view = s.view.release i :=
  view_updStation_release s i rfl rfl
@[simp] theorem view_vacantNow (s : State) (i : StationNo) : (s.vacantNow i).view = s.view.release i :=
  view_updStation_release s i rfl rfl
@[simp] theorem view_releaseWith (s : State) (i : StationNo) (o : Order) : (s.releaseWith i o).view = s.view.release i :=
  view_updStation_release (s.orderStation i o) i rfl rfl

/-- R74: VENTING with the aborted flag set, from a station whose test has ended. -/
theorem view_ventAborted {s : State} {i : StationNo} (h : (s.station i).record = none) (e : TypeEntry) :
    (s.ventAborted i e).view = s.view.release i :=
  view_updStation_release (s.orderStation i .vent) i h rfl

/-- R74: the ordinary abort path leaves a station whose test has ended without one. -/
theorem view_abortPath {s : State} {i : StationNo} (h : (s.station i).record = none) (e : TypeEntry) :
    (s.abortPath i e).view = s.view.release i := by
  unfold State.abortPath; split
  case h_1 => exact view_releaseWith ..
  case h_2 => exact view_releaseWith ..
  case h_3 => exact view_ventAborted h e
  case h_4 => exact view_ventAborted h e
  case h_5 hst => exact view_updStation_release s i h (by simp [Station.testing, hst])
  case h_6 h1 h2 h3 h4 h5 =>
    refine (view_release_self h (testing_of_state ?_)).symm
    cases hst : (s.station i).state <;> first | rfl | contradiction

/-! ## Records -/

theorem view_putRec (s : State) (n : RecNo) (r : Option Record) :
    (s.putRec n r).view = s.view.setRec n (r.map Record.key) := by
  have hrec : (fun m => ((s.putRec n r).getRec m).map Record.key)
      = Function.update (fun m => (s.getRec m).map Record.key) n (r.map Record.key) := by
    funext m
    by_cases hm : m = n
    · subst hm; rw [getRec_putRec_self, Function.update_self]
    · rw [getRec_putRec_ne s (Ne.symm hm), Function.update_of_ne hm]
  simp only [State.view, View.setRec, hrec]; rfl

theorem view_recs_of {s : State} {n : RecNo} {r : Record} (h : s.getRec n = some r) : s.view.recs n = some r.key := by
  simp [State.view, h]

theorem view_modRec {s : State} {n : RecNo} {r : Record} (h : s.getRec n = some r) (f : Record → Record) :
    (s.modRec n f).view = s.view.setRec n (some (f r).key) := by
  rw [modRec_some h, view_putRec]; rfl

theorem View.setRec_self {v : View} {n : RecNo} {r : Option RecKey} (h : v.recs n = r) : v.setRec n r = v := by
  subst h; simp [View.setRec]

/-- A record changed in what the view does not read. -/
theorem view_modRec_same (s : State) (n : RecNo) {f : Record → Record} (hf : ∀ r, s.getRec n = some r → (f r).key = r.key) :
    (s.modRec n f).view = s.view := by
  cases h : s.getRec n with
  | none => simp [State.modRec, h]
  | some r => rw [view_modRec h, hf r h, View.setRec_self (view_recs_of h)]

@[simp] theorem view_modResult (s : State) (i : StationNo) (f : TestResult → TestResult) :
    (s.modResult i f).view = s.view := by
  unfold State.modResult; split
  · exact view_modRec_same s _ fun _ _ => rfl
  · rfl

/-! ## Lists, dispatchers and banks -/

@[simp] theorem view_setList (s : State) (a : Actuator) (l : List RecNo) : (s.setList a l).view = s.view.setList a l := by
  have hl : (s.dispatch.setList a l).list = Function.update s.dispatch.list a l := by
    funext b
    by_cases hb : b = a
    · subst hb; simp
    · rw [list_setList_ne _ (Ne.symm hb), Function.update_of_ne hb]
  have hd (b : Actuator) : (s.dispatch.setList a l).disp b = s.dispatch.disp b := by cases a <;> cases b <;> rfl
  simp only [State.view, View.setList, State.setList_dispatch, hl, hd]; rfl

theorem view_dropFromList (s : State) (a : Actuator) (n : RecNo) :
    (s.dropFromList a n).view = s.view.setList a ((s.view.lists a).filter fun m => m != n) := view_setList ..

@[simp] theorem view_setDisp (s : State) (a : Actuator) (x : ActDispatcher) :
    (s.setDisp a x).view = s.view.setFlying a x.flying := by
  have hd : (fun b => ((s.dispatch.setDisp a x).disp b).flying)
      = Function.update (fun b => (s.dispatch.disp b).flying) a x.flying := by
    funext b
    cases a <;> cases b <;> simp [DispatchUnit.setDisp, DispatchUnit.disp]
  have hl : (s.dispatch.setDisp a x).list = s.dispatch.list := by funext b; cases a <;> cases b <;> rfl
  simp only [State.view, View.setFlying, State.setDisp_dispatch, hd, hl]; rfl

theorem View.setFlying_self {v : View} {a : Actuator} {o : Option RecNo} (h : v.flying a = o) : v.setFlying a o = v := by
  subst h; simp [View.setFlying]

/-- R14, R18: what releasing a reference does to the banks of a view. -/
def View.dropRef (v : View) : Option BankRef → BankId → BankKey
  | none => v.banks
  | some b => Function.update v.banks b.bank
      ⟨if (v.banks b.bank).state = .retiring ∧ (v.banks b.bank).refs - 1 = 0 then .standby else (v.banks b.bank).state,
        (v.banks b.bank).gen, (v.banks b.bank).refs - 1⟩

theorem get_set (t : TypeBanks) (k j : BankId) (x : Bank) : (t.set k x).get j = if j = k then x else t.get j := by
  cases k <;> cases j <;> rfl

/-- The keys of the banks after one bank is replaced. -/
theorem keys_set (t : TypeBanks) (k : BankId) (x : Bank) :
    (fun j => ((t.set k x).get j).key) = Function.update (fun j => (t.get j).key) k x.key := by
  funext j
  rw [get_set]
  by_cases hj : j = k
  · subst hj; simp
  · simp [hj]

theorem keys_dropRef (s : State) (o : Option BankRef) :
    (fun j => ((s.banks.dropRef o).get j).key) = s.view.dropRef o := by
  cases o with
  | none => rfl
  | some b => simp only [TypeBanks.dropRef, keys_set]; rfl

theorem view_setBank (s : State) (k : BankId) (x : Bank) :
    (s.setBank k x).view = { s.view with banks := Function.update s.view.banks k x.key } := by
  simp only [State.view, State.setBank_banks, keys_set]; rfl

/-- A bank changed in what the view does not read. -/
theorem view_setBank_same (s : State) {k : BankId} {x : Bank} (h : x.key = (s.banks.get k).key) :
    (s.setBank k x).view = s.view := by
  have : Function.update s.view.banks k (s.view.banks k) = s.view.banks := Function.update_eq_self ..
  rw [view_setBank, h]
  exact congrArg (fun b => { s.view with banks := b }) this

/-! ## A verdict (R27) -/

/-- What a verdict on a record does to a view: held without its bank, put on an actuator's list without it, or waiting for a
retest with it. -/
inductive View.Judged (vd : Verdict) (n : RecNo) (k : RecKey) (u : View) : View → Prop
  | held : View.Judged vd n k u
      { u.setRec n (some { k with state := .hold, seated := false, bank := none }) with banks := u.dropRef k.bank }
  | listed (a : Actuator) : View.Judged vd n k u
      ({ u.setRec n (some { k with state := a.pendingState, seated := false, bank := none }) with
        banks := u.dropRef k.bank }.setList a (u.lists a ++ [n]))
  | retest (why : Reason) (hv : vd = .retest why) : View.Judged vd n k u
      (u.setRec n (some { k with state := .retestWait, seated := false }))

theorem View.Judged.release {vd : Verdict} {n : RecNo} {k : RecKey} {u u' : View} (h : View.Judged vd n k u u')
    (i : StationNo) : View.Judged vd n k (u.release i) (u'.release i) := by
  cases h with
  | held => exact .held
  | listed a => exact .listed a
  | retest why hv => exact .retest why hv

/-- A verdict applied is an update of the record, the banks and the Dispatch Unit, with a notice and a tally. -/
theorem giveVerdict_disposed {s : State} {n : RecNo} {r : Record} (h : s.getRec n = some r) (vd : Verdict) (figures : Bool) :
    ∃ x k d, s.giveVerdict n vd figures
        = ((s.disposed n x k d).offerNotice (verdictNotice n vd figures x)).tally vd.tally
      ∧ View.Judged vd n r.key s.view (s.disposed n x k d).view := by
  let q : Record := { r with verdict := some vd, seatedFrom := none }
  let w := s.putRec n (some q)
  have hw : w.getRec n = some q := getRec_putRec_self ..
  have order (x : Record) (d : DispatchUnit) (lane : Lane) : (d.order n x lane).list = d.list
      ∧ ∀ a, (d.order n x lane).disp a = d.disp a := by
    unfold DispatchUnit.order; split <;> exact ⟨rfl, fun _ => rfl⟩
  have gives {x : Record} {k : TypeBanks} {d : DispatchUnit} (hd : w.disposeRec n vd = w.disposed n x k d)
      (hj : View.Judged vd n r.key s.view (s.disposed n x k d).view) :
      ∃ x k d, s.giveVerdict n vd figures
          = ((s.disposed n x k d).offerNotice (verdictNotice n vd figures x)).tally vd.tally
        ∧ View.Judged vd n r.key s.view (s.disposed n x k d).view :=
    ⟨x, k, d, giveVerdict_of_dispose h figures (hd.trans (disposed_putRec ..)), hj⟩
  have view_disposed (x : Record) (k : TypeBanks) (d : DispatchUnit) : (s.disposed n x k d).view
      = { s.view.setRec n (some x.key) with
          lists := d.list, flying := fun a => (d.disp a).flying, banks := fun j => (k.get j).key } := by
    have : (s.disposed n x k d).view = { (s.putRec n (some x)).view with
      lists := d.list, flying := fun a => (d.disp a).flying, banks := fun j => (k.get j).key } := rfl
    rw [this, view_putRec]; rfl
  have held {why : HoldReason} (hd : w.disposeRec n vd = w.heldFor n q why) :
      ∃ x k d, s.giveVerdict n vd figures
          = ((s.disposed n x k d).offerNotice (verdictNotice n vd figures x)).tally vd.tally
        ∧ View.Judged vd n r.key s.view (s.disposed n x k d).view := by
    refine gives hd ?_
    rw [view_disposed, (order ..).1, keys_dropRef]
    simp only [(order ..).2]
    exact .held
  have listed (a : Actuator) (hd : w.disposeRec n vd = (w.releaseRef n).appendList a n) :
      ∃ x k d, s.giveVerdict n vd figures
          = ((s.disposed n x k d).offerNotice (verdictNotice n vd figures x)).tally vd.tally
        ∧ View.Judged vd n r.key s.view (s.disposed n x k d).view := by
    rcases le_or_gt 32 (w.dispatch.list a).length with hl | hl
    · exact held (hd.trans (append_full hw hl))
    · cases ho : w.online a with
      | false => exact held (hd.trans (append_offline hw hl ho))
      | true =>
        by_cases hr : w.dispatch.routes.length < 4
        · refine gives (hd.trans (append_listed hw hl ho hr)) ?_
          rw [view_disposed, (order ..).1, keys_dropRef]
          have hlist := congrArg View.lists (view_setList s a (s.dispatch.list a ++ [n]))
          have hfly := congrArg View.flying (view_setList s a (s.dispatch.list a ++ [n]))
          simp only [(order ..).2]
          have e1 : (w.dispatch.setList a (w.dispatch.list a ++ [n])).list
              = Function.update s.view.lists a (s.view.lists a ++ [n]) := hlist
          have e2 : (fun b => ((w.dispatch.setList a (w.dispatch.list a ++ [n])).disp b).flying) = s.view.flying := hfly
          rw [e1, e2]
          exact .listed a
        · exact held (hd.trans (append_unconfirmed hw hl ho hr))
  cases vd with
  | pass => exact listed .press rfl
  | condemn why => exact listed .scrapCell rfl
  | hold why => exact held (hold_released hw _)
  | retest why =>
    rcases Nat.eq_zero_or_pos q.retestsLeft with hb | hb
    · exact held (retestRec_spent hw hb)
    · refine gives (retestRec_budget hw hb) ?_
      rw [view_disposed, (order ..).1]
      simp only [(order ..).2]
      exact .retest why rfl

theorem giveVerdict_judged {s : State} {n : RecNo} {r : Record} (h : s.getRec n = some r) (vd : Verdict) (figures : Bool) :
    View.Judged vd n r.key s.view (s.giveVerdict n vd figures).view := by
  obtain ⟨x, k, d, he, hj⟩ := giveVerdict_disposed h vd figures
  rw [he, view_tally, view_offerNotice]
  exact hj

/-- A verdict leaves the stations as they are. -/
@[simp] theorem giveVerdict_stations (s : State) (n : RecNo) (vd : Verdict) (figures : Bool) :
    (s.giveVerdict n vd figures).stations = s.stations := by
  cases h : s.getRec n with
  | none => simp [State.giveVerdict, h]
  | some r =>
    obtain ⟨x, k, d, he, -⟩ := giveVerdict_disposed h vd figures
    rw [he]
    unfold State.offerNotice; split <;> rfl

@[simp] theorem giveVerdict_station (s : State) (n : RecNo) (vd : Verdict) (figures : Bool) (i : StationNo) :
    (s.giveVerdict n vd figures).station i = s.station i := by
  simp only [State.station, giveVerdict_stations]

/-! ## The end of a test (R73) -/

/-- R73: an ended test leaves its station as it is but for the record. -/
theorem station_concludeTest (s : State) (i : StationNo) (how : TestEnd) :
    (s.concludeTest i how).station i = { s.station i with record := none } := by
  unfold State.concludeTest State.unlink; split <;> simp

theorem station_endTest (s : State) (i : StationNo) (why : Reason) :
    (s.endTest i why).station i = { s.station i with record := none } := by
  unfold State.endTest; split
  · split
    case h_1 n hn =>
      have : (s.modRec n (returned why)).station i = s.station i := by unfold State.modRec; split <;> rfl
      simp [State.unlink, this]
    case h_2 hn => rw [← hn]
  · exact station_concludeTest ..

end Sys2Proof.Machine
end


section
/-!
PROOFS. The record law and the bank law kept by every step: each operation of the model keeps them, those that end a test
leaving them of the view with the station released. The verdicts on records come first, then the operations in the order of
the blocks.
-/

namespace Sys2Proof.Machine

/-! ## Moves of a record under both laws -/

namespace View
variable {B : Prop} {v : View} {n : RecNo}

theorem RecLaw.with_banks (h : v.RecLaw) (b : BankId → BankKey) : RecLaw { v with banks := b } :=
  ⟨⟨h.sound.lists, h.sound.closed, h.sound.testing, h.sound.apart, h.sound.serial⟩, fun n =>
    let l := h.at_ n; ⟨l.listed, l.closed, l.tested, l.flying, l.seated⟩⟩

theorem Lawful.away (w : v.Lawful B) (hs : (v.st n).all loose = true) : v.Away B n := ⟨w.recs.out hs, w.banks⟩

theorem Lawful.release_away (w : v.Lawful B) {i : StationNo} (hi : v.held i = some n) : (v.release i).Away B n :=
  ⟨w.recs.release_out hi, fun b => (w.banks b).congr rfl rfl⟩

theorem Lawful.unlist_away (w : v.Lawful B) {a : Actuator} (ha : n ∈ v.lists a) :
    (v.setList a ((v.lists a).filter fun m => m != n)).Away B n :=
  ⟨w.recs.unlist_out ha, fun b => (w.banks b).congr rfl rfl⟩

theorem Lawful.unclose_away (w : v.Lawful B) (hn : (v.st n).all (fun x => loose x || x.isClosed) = true) :
    View.Away B n { v with closed := v.closed.filter fun m => m != n } :=
  ⟨w.recs.unclose_out hn, fun b => (w.banks b).congr rfl rfl⟩

theorem Lawful.land_away (w : v.Lawful B) {a : Actuator} (ha : v.flying a = some n) : (v.setFlying a none).Away B n :=
  ⟨w.recs.land_out ha, fun b => (w.banks b).congr rfl rfl⟩

/-- A station without a test may be released. -/
theorem Lawful.release_idle (w : v.Lawful B) {i : StationNo} (h : v.testing i = false) : (v.release i).Lawful B := by
  have : v.held i = none := by
    have := w.recs.sound.testing i
    rwa [h, Option.isSome_eq_false_iff, Option.isNone_iff_eq_none] at this
  rwa [w.recs.sound.release_idle this]

theorem Lawful.state_of (w : v.Lawful B) {i : StationNo} (h : v.held i = some n) : v.st n = some .onTest :=
  (w.recs.at_ n).tested.mp ⟨i, h⟩

theorem st_of {k : RecKey} (h : v.recs n = some k) : v.st n = some k.state := by simp [st, h]

section rewritten
variable {k₀ k : RecKey} (w : v.Away B n) (hk₀ : v.recs n = some k₀) (hser : k.serial = k₀.serial)
include w hk₀

/-- A record on its way that keeps its bank, and whether its state references one. -/
theorem Away.restate (hbank : k.bank = k₀.bank) (href : k.state.references = k₀.state.references) (hB : B) :
    (v.setRec n (some k)).BankLaw := by
  refine (w.banks hB).setRec (by simp [bankAt, hk₀, hbank]) ?_
  rintro _ ⟨⟩
  rw [hbank, href]
  exact ((w.banks hB).refers n k₀ hk₀).1

/-- R128: a record on its way that gives up its reference. -/
theorem Away.dropped (hbank : k.bank = none) (href : k.state.references = false) (hB : B) :
    BankLaw { v.setRec n (some k) with banks := v.dropRef k₀.bank } := by
  have hat : v.bankAt n = k₀.bank := by simp [bankAt, hk₀]
  cases hb : k₀.bank with
  | none =>
    refine BankLaw.congr (v := v.setRec n (some k)) ((w.banks hB).setRec (by simp [hat, hb, hbank]) ?_) rfl rfl
    rintro _ ⟨⟩
    rw [hbank, href]; rfl
  | some b => exact (w.banks hB).drop (hat.trans hb) hbank href rfl

include hser

theorem Away.to_loose (hl : loose k.state = true) (hs : k.seated = false) (hbank : k.bank = k₀.bank)
    (href : k.state.references = k₀.state.references) : (v.setRec n (some k)).Lawful B :=
  ⟨w.out.put_loose (w.out.sound.fresh hk₀ hser) (by rintro _ ⟨⟩; exact ⟨hl, hs⟩), w.restate hk₀ hbank href⟩

theorem Away.to_closed (hc : k.state.isClosed = true) (hs : k.seated = false) (hbank : k.bank = k₀.bank)
    (href : k₀.state.references = false) : View.Lawful B { v.setRec n (some k) with closed := v.closed ++ [n] } := by
  have href' : k.state.references = false := by
    revert hc; cases k.state <;> decide
  exact ⟨w.out.put_closed (w.out.sound.fresh hk₀ hser) hc hs,
    fun hB => (w.restate hk₀ hbank (by rw [href, href']) hB).congr rfl rfl⟩

theorem Away.to_flying {a : Actuator} (ha : k.state = a.atState) (hs : k.seated = false) (hbank : k.bank = k₀.bank)
    (href : k₀.state.references = false) (hfree : v.flying a = none) :
    ((v.setRec n (some k)).setFlying a (some n)).Lawful B := by
  have href' : k.state.references = false := by rw [ha]; cases a <;> rfl
  exact ⟨w.out.put_flying (w.out.sound.fresh hk₀ hser) ha hs hfree,
    fun hB => (w.restate hk₀ hbank (by rw [href, href']) hB).congr rfl rfl⟩

theorem Away.to_test {i : StationNo} (ht : k.state = .onTest) (hs : k.seated = true) (hbank : k.bank = k₀.bank)
    (href : k₀.state.references = true) (hfree : v.held i = none) : View.Lawful B { v.setRec n (some k) with
      held := Function.update v.held i (some n), testing := Function.update v.testing i true } :=
  ⟨w.out.put_test (w.out.sound.fresh hk₀ hser) ht hs hfree,
    fun hB => (w.restate hk₀ hbank (by rw [ht, href]; rfl) hB).congr rfl rfl⟩

end rewritten

/-- A verdict on a record on its way leaves both laws. -/
theorem Judged.lawful {vd : Verdict} {k : RecKey} {v' : View} (h : Judged vd n k v v') (w : v.Away B n)
    (hk : v.recs n = some k) (hret : ∀ why, vd = .retest why → k.state.references = true) : v'.Lawful B := by
  cases h with
  | held =>
    refine ⟨RecLaw.with_banks (v := v.setRec n _) ?_ _, w.dropped hk rfl rfl⟩
    exact w.out.put_loose (w.out.sound.fresh hk rfl) (by rintro _ ⟨⟩; exact ⟨rfl, rfl⟩)
  | listed a =>
    refine ⟨RecLaw.with_banks (v := (v.setRec n _).setList a _) ?_ _, fun hB => ?_⟩
    · exact w.out.put_list (w.out.sound.fresh hk rfl) rfl rfl
    · exact (w.dropped hk (k := { k with state := a.pendingState, seated := false, bank := none }) rfl
        (by cases a <;> rfl) hB).congr rfl rfl
  | retest why hv => exact w.to_loose hk rfl rfl rfl rfl (hret why hv).symm

end View

/-! ## Verdicts and tests -/

/-- The laws of the records and, under a premise, of the banks. -/
abbrev State.Lawful (B : Prop) (s : State) : Prop := s.view.Lawful B

theorem State.Lawful.of_view {B : Prop} {s t : State} (w : s.Lawful B) (h : t.view = s.view) : t.Lawful B := by
  rw [State.Lawful, h]; exact w

/-- R26, R69: the eligible record that a serial field names is INSPECTED or in RETEST WAIT. -/
theorem eligible_spec {s : State} {field : List Byte} {n : RecNo} {r : Record} {f : SeatedFrom}
    (h : s.eligible field = some (n, r, f)) : s.getRec n = some r ∧ r.state = f.recState := by
  unfold State.eligible at h
  split at h
  case h_1 => cases h
  case h_2 =>
    split at h
    case h_2 => cases h
    case h_1 hr =>
      split at h
      case h_1 hst => cases h; exact ⟨hr, hst⟩
      case h_2 hst => cases h; exact ⟨hr, hst⟩
      case h_3 => cases h

namespace State.Lawful
variable {B : Prop} {s : State} (w : s.Lawful B)
include w

theorem idle {i : StationNo} (h : (s.station i).testing = false) : (s.view.release i).Lawful B := w.release_idle h

theorem record_of_idle {i : StationNo} (h : (s.station i).testing = false) : (s.station i).record = none := by
  have := w.recs.sound.testing i
  have h' : s.view.testing i = false := h
  rwa [h', Option.isSome_eq_false_iff, Option.isNone_iff_eq_none] at this

theorem seated_of {n : RecNo} {r : Record} (h : s.getRec n = some r) : r.seatedFrom.isSome = (r.state == .onTest) :=
  (w.recs.at_ n).seated r.key (view_recs_of h)

/-- R65: the record of a test in progress is ON TEST. -/
theorem tested {i : StationNo} {n : RecNo} (h : (s.station i).record = some n) :
    ∃ r, s.getRec n = some r ∧ r.state = .onTest := by
  have hst : s.stateOf n = some .onTest := by rw [← stateOf_view]; exact w.state_of h
  simpa [State.stateOf] using hst

theorem giveVerdict {n : RecNo} {r : Record} (h : s.getRec n = some r) (hl : View.loose r.state = true) {vd : Verdict}
    (hv : ∀ why, vd = .retest why → r.state.references = true) (figures : Bool) :
    (s.giveVerdict n vd figures).Lawful B :=
  (giveVerdict_judged h vd figures).lawful (w.away (by rw [View.st_of (view_recs_of h)]; exact hl)) (view_recs_of h) hv

/-- R73: a test ended with a verdict leaves both laws, its station released. -/
theorem concludeTest (i : StationNo) (how : TestEnd) : ((s.concludeTest i how).view.release i).Lawful B := by
  unfold State.concludeTest State.unlink
  cases hi : (s.station i).record with
  | none =>
    simp only [State.testRec, hi, Option.bind_none, release_updStation]
    rwa [w.recs.sound.release_idle hi]
  | some n =>
    obtain ⟨r, hr, hst⟩ := w.tested hi
    simp only [State.testRec, hi, hr, Option.bind_some, Option.map_some, release_updStation]
    exact ((giveVerdict_judged hr _ _).release i).lawful (w.release_away hi) (view_recs_of hr)
      fun _ _ => (congrArg RecState.references hst).trans rfl

/-- R26, R73: a test ended early likewise. -/
theorem endTest (i : StationNo) (why : Reason) : ((s.endTest i why).view.release i).Lawful B := by
  unfold State.endTest; split
  case isTrue =>
    split
    case h_1 n hi =>
      obtain ⟨r, hr, hst⟩ := w.tested hi
      obtain ⟨f, hf⟩ := Option.isSome_iff_exists.mp ((w.seated_of hr).trans (by rw [hst]; rfl))
      have hk : (returned why r).key = ⟨r.serial, f.recState, false, r.bank⟩ := by simp [returned, Record.key, hf]
      simp only [State.unlink, release_updStation]
      rw [view_modRec hr, hk]
      exact (w.release_away hi).to_loose (view_recs_of hr) rfl (by cases f <;> rfl) rfl rfl
        (by rw [Record.key, hst]; cases f <;> rfl)
    case h_2 hi => rwa [w.recs.sound.release_idle hi]
  case isFalse => exact w.concludeTest i _

/-- R73, R74: a test ended by the ordinary abort path. -/
theorem abortTest (i : StationNo) (why : Reason) : (s.abortTest i why).Lawful B := by
  unfold State.abortTest State.Lawful
  rw [view_abortPath (by rw [station_endTest])]
  exact w.endTest i why

/-! ## Station events (chapter 4) -/

theorem acceptSeat {i : StationNo} (hi : (s.station i).testing = false) {n : RecNo} {r : Record} {f : SeatedFrom}
    (hr : s.getRec n = some r) (hst : r.state = f.recState) : (s.acceptSeat i n r f).Lawful B := by
  have hl : View.loose r.key.state = true := by rw [Record.key, hst]; cases f <;> rfl
  have hview : (s.acceptSeat i n r f).view
      = { s.view.setRec n (some { r.key with state := .onTest, seated := true }) with
          held := Function.update s.view.held i (some n), testing := Function.update s.view.testing i true } := by
    unfold State.acceptSeat
    rw [view_updStation, view_orderStation, view_putRec]; rfl
  rw [State.Lawful, hview]
  exact (w.away (by rw [View.st_of (view_recs_of hr)]; exact hl)).to_test (view_recs_of hr)
    (k := { r.key with state := .onTest, seated := true }) rfl rfl rfl rfl (by rw [Record.key, hst]; cases f <;> rfl) (w.record_of_idle hi)

theorem seatVacant {i : StationNo} (hi : (s.station i).testing = false) (field : List Byte) :
    (s.seatVacant i field).Lawful B := by
  have rejected (o : Order) : (s.releaseWith i o).Lawful B := by
    rw [State.Lawful, view_releaseWith]; exact w.idle hi
  unfold State.seatVacant; split
  case h_1 => exact rejected _
  case h_2 n r f he =>
    obtain ⟨hr, hst⟩ := eligible_spec he
    split
    · exact (rejected _).of_view (view_modRec_same _ _ fun _ _ => rfl)
    · exact w.acceptSeat hi hr hst

/-- R76: a station that releases, or comes out of RESYNC, is left without a test. -/
theorem finishRelease {i : StationNo} (hi : (s.station i).testing = false) : (s.finishRelease i).Lawful B := by
  unfold State.finishRelease; split
  · exact w.of_view (view_updStation_same s i rfl (by rw [hi]; rfl))
  · rw [State.Lawful, view_enterVacant]; exact w.idle hi

theorem enterVacant_after {i : StationNo} (why : Reason) : ((s.endTest i why).enterVacant i).Lawful B := by
  rw [State.Lawful, view_enterVacant]; exact w.endTest i why

theorem enterFaulted_after {i : StationNo} (why : Reason) : ((s.endTest i why).enterFaulted i).Lawful B := by
  rw [State.Lawful, view_enterFaulted]; exact w.endTest i why

theorem seatedEvent (i : StationNo) (field : List Byte) : (s.seatedEvent i field).Lawful B := by
  unfold State.seatedEvent; split
  case h_1 hst => exact w.seatVacant (testing_of_state (by rw [hst]; rfl)) field
  case h_2 hst =>
    have hi : (s.station i).testing = false := testing_of_state (by rw [hst]; rfl)
    split
    case isTrue => exact w.finishRelease hi
    case isFalse hl =>
      have hvac : s.finishRelease i = s.enterVacant i := if_neg hl
      exact (w.finishRelease hi).seatVacant (by rw [hvac, State.enterVacant, station_updStation_self]; rfl) field
  case h_3 => exact w
  case h_4 => exact w
  case h_5 => exact w
  case h_6 =>
    exact (w.enterVacant_after _).seatVacant (by rw [State.enterVacant, station_updStation_self]; rfl) field

theorem sealFaultEvent (i : StationNo) : (s.sealFaultEvent i).Lawful B := by
  unfold State.sealFaultEvent; split
  case h_1 hst => exact w.of_view (view_updStation_same s i rfl rfl)
  case h_6 =>
    split
    · exact w
    · exact w.abortTest ..
  case h_7 => exact w
  all_goals exact w.abortTest ..

theorem releasedEvent (i : StationNo) : (s.releasedEvent i).Lawful B := by
  unfold State.releasedEvent; split
  case h_1 hst => exact w.finishRelease (testing_of_state (by rw [hst]; rfl))
  case h_2 hst => exact w.finishRelease (testing_of_state (by rw [hst]; rfl))
  case h_3 => exact w.of_view (view_updStation_same s i rfl rfl)
  case h_4 => exact w
  case h_5 => exact w
  case h_6 => exact w.enterVacant_after _

theorem burstEvent (i : StationNo) : (s.burstEvent i).Lawful B := by
  unfold State.burstEvent; split
  · exact w
  · rw [State.Lawful, view_updPort, view_enterFaulted]
    split
    · exact w.concludeTest i _
    case isFalse hi =>
      have hn : s.view.held i = none := Option.not_isSome_iff_eq_none.mp hi
      rwa [w.recs.sound.release_idle hn]

theorem declareSilent (i : StationNo) : (s.declareSilent i).Lawful B := w.enterFaulted_after _

theorem stationUnreachable (i : StationNo) (b : Body) : (s.stationUnreachable i b).Lawful B := by
  unfold State.stationUnreachable; split
  · exact w
  · split
    · exact w.declareSilent i
    · exact w

theorem scan : s.scan.Lawful B := by
  unfold State.scan
  generalize List.finRange 8 = l
  induction l generalizing s with
  | nil => exact w
  | cons i l ih =>
    refine ih ?_
    dsimp only
    split
    · exact (w.declareSilent i).of_view (view_endEvent _)
    · exact w

/-! ## The pressure cycle (chapter 5) -/

/-- R93: zero captured at a station in SEATED, whose test goes on. -/
theorem captureZero {i : StationNo} (hst : (s.station i).state = .seated) (e : TypeEntry) (x : Sample) :
    (s.captureZero i e x).Lawful B := by
  have begun (s1 : State) (hv : s1.view = s.view) (hs : s1.station i = s.station i) :
      ((s1.orderStep i e 1).updStation i fun st => { st with state := .ramping }).Lawful B := by
    unfold State.orderStep
    rw [updStation_updStation]
    refine w.of_view ((view_updStation_same (s1.orderStation i _) i rfl ?_).trans hv)
    have : (s1.orderStation i (.step 1 (stepTarget e.pt e.steps 1))).station i = s.station i := hs
    rw [this, Station.testing, Station.testing, hst]; rfl
  unfold State.captureZero
  split
  · exact begun _ (view_modRec_same s _ fun _ _ => rfl) (by unfold State.modRec; split <;> rfl)
  · exact begun _ rfl rfl

theorem overpressure (i : StationNo) (e : TypeEntry) : (s.overpressure i e).Lawful B := by
  unfold State.overpressure
  rw [State.Lawful, view_ventAborted (by rw [station_concludeTest])]
  exact w.concludeTest i _

theorem holdSample (i : StationNo) (e : TypeEntry) (x : Sample) : (s.holdSample i e x).Lawful B := by
  have h1 : (s.holdPressure i x.pressure).Lawful B :=
    w.of_view ((view_modResult ..).trans (view_updStation_same s i rfl rfl))
  unfold State.holdSample; dsimp only
  split
  · exact h1.overpressure ..
  · split
    · exact h1.abortTest ..
    · exact h1

theorem phaseSample (i : StationNo) (x : Sample) : (s.phaseSample i x).Lawful B := by
  unfold State.phaseSample; dsimp only
  split
  case h_1 hst =>
    split
    · exact w.captureZero hst ..
    · exact w
  case h_2 =>
    split
    · exact w.overpressure ..
    · exact w
  case h_3 => exact w.holdSample ..
  case h_4 => exact w

theorem enterWindow (i : StationNo) (x : Sample) : (s.enterWindow i x).Lawful B :=
  w.of_view (view_updStation_same s i rfl rfl)

theorem useSample (i : StationNo) (x : SampleFields) : (s.useSample i x).Lawful B := by
  unfold State.useSample; split
  · exact w.abortTest ..
  · exact (w.enterWindow ..).phaseSample ..

theorem countGap (i : StationNo) (missed : Nat) : (s.countGap i missed).Lawful B := by
  unfold State.countGap; dsimp only
  split
  · exact w.of_view (view_updStation_same s i rfl rfl)
  · exact w.of_view ((view_modResult ..).trans (view_updStation_same s i rfl rfl))

theorem sampleEvent (i : StationNo) (x : SampleFields) : (s.sampleEvent i x).Lawful B := by
  have h1 : (s.expectNext i x.seq).Lawful B := w.of_view (view_updStation_same s i rfl rfl)
  unfold State.sampleEvent; split
  · split
    · exact w
    · dsimp only
      split
      · split
        · exact h1
        · exact h1.enterWindow ..
      · unfold State.inOrderSample; split
        · exact h1.useSample ..
        · dsimp only
          split
          · exact (h1.countGap ..).abortTest ..
          · exact (h1.countGap ..).useSample ..
  · exact w

theorem reachedEvent (i : StationNo) (k : Nat) : (s.reachedEvent i k).Lawful B := by
  unfold State.reachedEvent; dsimp only
  split
  case isTrue hst =>
    split
    · exact w.of_view (view_updStation_same (s.orderStation i _) i rfl rfl)
    · unfold State.beginHold
      refine w.of_view ((view_modResult ..).trans (view_updStation_same s i rfl ?_))
      rw [Station.testing, Station.testing, hst.1]; rfl
  case isFalse => exact w

theorem ventedEvent (i : StationNo) : (s.ventedEvent i).Lawful B := by
  unfold State.ventedEvent; split
  case isTrue hst =>
    split
    case isTrue ha =>
      rw [State.Lawful, view_releaseWith]
      exact w.idle (by simp [Station.testing, hst, ha])
    case isFalse ha =>
      exact w.of_view (view_updStation_same s i rfl (by simp [Station.testing, hst, ha, StState.inCycle]))
  case isFalse => exact w

theorem zeroExpiry (i : StationNo) : (s.zeroExpiry i).Lawful B := by
  unfold State.zeroExpiry; split
  · exact w.abortTest ..
  · exact w

theorem stepExpiry (i : StationNo) : (s.stepExpiry i).Lawful B := by
  unfold State.stepExpiry; split
  · exact w.abortTest ..
  · exact w

theorem capture (i : StationNo) : (s.capture i).Lawful B := by
  unfold State.capture; split
  case isTrue hst =>
    unfold State.captureHold; dsimp only
    have hs : ((s.modResult i fun t => { t with total := latestReading (s.station i).window }).orderStation i .vent).station i
        = s.station i := by
      unfold State.modResult State.modRec
      split
      · split <;> rfl
      · rfl
    refine w.of_view ((view_updStation_same _ i rfl ?_).trans (view_modResult ..))
    rw [hs]
    simp [Station.testing, hst, StState.inCycle]
  case isFalse =>
    unfold State.captureSettle; dsimp only
    have h2 : ((s.modResult i fun t => { t with settled := latestReading (s.station i).window }).modResult i fun t =>
        { t with expansion := calculated (s.station i).cfg.k t }).Lawful B :=
      w.of_view ((view_modResult ..).trans (view_modResult ..))
    rw [State.Lawful, view_releaseWith]
    split
    · exact h2.concludeTest i _
    · exact h2.concludeTest i _

theorem beginExtension (i : StationNo) : (s.beginExtension i).Lawful B := by
  unfold State.beginExtension; split
  · dsimp only
    split
    · exact w.abortTest ..
    · exact w.of_view (view_updStation_same s i rfl rfl)
  · exact w

theorem phaseEndExpiry (i : StationNo) (phase : StState) : (s.phaseEndExpiry i phase).Lawful B := by
  unfold State.phaseEndExpiry; split
  · split
    · exact w.capture i
    · exact w.beginExtension i
  · exact w

theorem extensionExpiry (i : StationNo) : (s.extensionExpiry i).Lawful B := by
  unfold State.extensionExpiry; split
  · exact w
  · split
    · split
      · exact w.capture i
      · split
        · exact w.abortTest ..
        · exact w.of_view (view_updStation_same s i rfl rfl)
    · exact w

theorem ventExpiry (i : StationNo) : (s.ventExpiry i).Lawful B := by
  unfold State.ventExpiry; split
  · exact w.enterFaulted_after _
  · exact w

theorem releaseExpiry (i : StationNo) : (s.releaseExpiry i).Lawful B := by
  unfold State.releaseExpiry; split
  case isTrue h =>
    rw [State.Lawful, view_orderStation, view_enterFaulted]
    exact w.idle (testing_of_state (by rw [h.1]; rfl))
  case isFalse => exact w

end State.Lawful

end Sys2Proof.Machine
end


section
/-!
PROOFS. The record law and the bank law kept by intake reads, findings, arrivals, reports, requests, a line reset, ring loss
and a power-on reset, and so by every step.
-/

namespace Sys2Proof.Machine

/-! ## Lookups (R24, R31) -/

/-- R24: a serial that the lookup does not find is held by no record. -/
theorem lacks_of_findSerial {s : State} {sr : List Byte} (h : s.findSerial sr = none) : s.Lacks sr := by
  intro m q hq e
  have := List.find?_eq_none.mp h m (List.mem_finRange m)
  simp [hq, e] at this

theorem findSerial_spec {s : State} {sr : List Byte} {n : RecNo} (h : s.findSerial sr = some n) :
    ∃ r, s.getRec n = some r ∧ r.serial = sr := by
  have := List.find?_some h
  cases hr : s.getRec n with
  | none => simp [hr] at this
  | some r => exact ⟨r, rfl, by simpa [hr] using this⟩

theorem view_st_of {s : State} {n : RecNo} {r : Record} (h : s.getRec n = some r) : s.view.st n = some r.state :=
  View.st_of (view_recs_of h)

theorem references_of {r : Record} {x : RecState} (h : r.state = x) : r.key.state.references = x.references := by
  rw [← h]; rfl

theorem lowestFree_spec {s : State} {n : RecNo} (h : s.lowestFree = some n) : s.getRec n = none := by
  have := List.find?_some h
  simpa using this

theorem onList_spec {s : State} {a : Actuator} {sr : List Byte} {n : RecNo} (h : s.onList a sr = some n) :
    n ∈ s.view.lists a ∧ ∃ r, s.getRec n = some r ∧ r.serial = sr := by
  refine ⟨List.mem_of_find?_eq_some h, ?_⟩
  have := List.find?_some h
  cases hr : s.getRec n with
  | none => simp [hr] at this
  | some r => exact ⟨r, rfl, by simpa [hr] using this⟩

namespace View

/-- A serial that no record holds may be given to any number. -/
theorem fresh_of_lacks {s : State} {n : RecNo} {r : Record} (h : s.Lacks r.serial) : s.view.Fresh n (some r.key) := by
  rintro _ ⟨⟩ m q _ hq e
  obtain ⟨x, hx, rfl⟩ := (view_recs_iff ..).mp hq
  exact h m x hx e

/-- R11: the bank found ACTIVE is ACTIVE. -/
theorem BankLaw.activeId {s : State} (h : s.view.BankLaw) : (s.view.banks s.banks.activeId).state = .active := by
  have hone := h.one
  by_cases ha : (s.banks.get .a).state = .active
  · have : s.banks.activeId = .a := if_pos ha
    rw [this]; exact ha
  · have : s.banks.activeId = .b := if_neg ha
    rw [this]
    exact not_not.mp fun e => ha (hone.mpr e)

end View

namespace State.Lawful
variable {B : Prop} {s : State} (w : s.Lawful B)
include w

/-! ## Intake reads (chapter 2) -/

/-- R28, R29: a record in HOLD or closed has no bank, and is taken from the Closed List where it stands on it. -/
theorem unclose {n : RecNo} (hn : ∀ x, s.view.st n = some x → x = .hold ∨ x.isClosed = true) :
    (s.unclose n).view.Away B n ∧ (B → (s.unclose n).view.bankAt n = none) := by
  have hview : (s.unclose n).view = { s.view with closed := s.view.closed.filter fun m => m != n } := rfl
  have hst : (s.view.st n).all (fun x => View.loose x || x.isClosed) = true := by
    cases hx : s.view.st n with
    | none => rfl
    | some x => rcases hn x hx with rfl | e <;> simp [*, View.loose]
  refine ⟨by rw [hview]; exact View.Lawful.unclose_away w hst, fun hB => ?_⟩
  refine (w.banks hB).bankAt_none fun k hk => ?_
  rcases hn k.state (View.st_of hk) with e | e
  · rw [e]; rfl
  · revert e; cases k.state <;> decide

/-- R43: a number freed. -/
theorem freeRec {n : RecNo} (hn : ∀ x, s.view.st n = some x → x = .hold ∨ x.isClosed = true) : (s.freeRec n).Lawful B := by
  obtain ⟨away, hbank⟩ := w.unclose hn
  rw [State.Lawful, State.freeRec, view_putRec]
  exact ⟨away.out.put_loose (by rintro _ ⟨⟩) (by rintro _ ⟨⟩),
    fun hB => (away.banks hB).setRec (by rw [hbank hB]; rfl) (by rintro _ ⟨⟩)⟩

omit w in
/-- R35 to R38: a record put at a number that is in no place is typed: held, condemned or IDENTIFIED. -/
theorem typeRec {n : RecNo} {r : Record} (away : s.view.Away B n) (hbank : B → s.view.bankAt n = none)
    (hfresh : s.view.Fresh n (some r.key)) (hst : r.state = .hold) (hseat : r.seatedFrom = none) (hb : r.bank = none) :
    (s.typeRec n r).Lawful B := by
  have put (q : Record) (hq : q.key = r.key) : (s.putRec n (some q)).Lawful B := by
    rw [State.Lawful, view_putRec, Option.map_some, hq]
    refine ⟨away.out.put_loose hfresh ?_, fun hB => (away.banks hB).setRec ?_ ?_⟩
    · rintro _ ⟨⟩; simp [Record.key, hst, hseat, View.loose]
    · simp [Record.key, hb, hbank hB]
    · rintro _ ⟨⟩; simp [Record.key, hb, hst, RecState.references]
  have judged (q : Record) (hq : q.key = r.key) {vd : Verdict} (hv : ∀ why, vd ≠ .retest why) :
      ((s.putRec n (some q)).giveVerdict n vd false).Lawful B := by
    have hqs : q.state = .hold := (congrArg RecKey.state hq).trans hst
    exact (put q hq).giveVerdict (getRec_putRec_self ..) (by rw [hqs]; rfl) (fun why e => absurd e (hv why)) _
  unfold State.typeRec; dsimp only
  split
  case h_1 => exact judged r rfl (by rintro _ ⟨⟩)
  case h_2 c _ =>
    split
    · exact judged { r with typeCode := some c, retestsLeft := _ } rfl (by rintro _ ⟨⟩)
    · split
      · exact judged { r with typeCode := some c, retestsLeft := _ } rfl (by rintro _ ⟨⟩)
      · unfold State.identify
        dsimp only
        rw [State.Lawful, view_routeRec]
        let j := s.banks.activeId
        let k : RecKey := ⟨r.serial, .identified, false, some ⟨j, (s.view.banks j).gen⟩⟩
        let x : BankKey := { s.view.banks j with refs := (s.view.banks j).refs + 1 }
        have hview (q : Record) (hq : q.key = k) : ((s.putRec n (some q)).updBanks fun t =>
            t.set j (t.get j).take).view = { s.view.setRec n (some k) with banks := Function.update s.view.banks j x } := by
          have := view_setBank (s.putRec n (some q)) j (s.banks.get j).take
          rw [view_putRec, Option.map_some, hq] at this
          exact this
        rw [hview _ (by simp [Record.key, k, hseat, j]; rfl)]
        refine ⟨View.RecLaw.with_banks (v := s.view.setRec n (some k)) (away.out.put_loose ?_ ?_) _, fun hB => ?_⟩
        · rintro _ ⟨⟩ m q hm hq; exact hfresh r.key rfl m q hm hq
        · rintro _ ⟨⟩; exact ⟨rfl, rfl⟩
        · exact (away.banks hB).take (hbank hB) (View.BankLaw.activeId (away.banks hB)) rfl rfl

/-- R31 to R34: a fresh record for a serial that no record holds. -/
theorem openFresh (t : TagFields) {serial : List Byte} (hl : s.Lacks serial) : (s.openFresh t serial).Lawful B := by
  have opened {u : State} {n : RecNo} (wu : u.Lawful B) (hn : u.getRec n = none) (hu : u.Lacks serial) :
      (u.raiseOpen.typeRec n (freshRecord t serial u.raiseOpen.records.openCount)).Lawful B := by
    have hrec : u.view.recs n = none := by simp [State.view, hn]
    refine typeRec (wu.away (by simp [View.st, hrec])) (fun _ => by simp [View.bankAt, hrec]) ?_ rfl rfl rfl
    exact View.fresh_of_lacks hu
  unfold State.openFresh State.allocate
  cases hf : s.lowestFree with
  | some n => exact opened w (lowestFree_spec hf) hl
  | none =>
    cases hc : s.records.closed with
    | nil => exact w.of_view (view_placeRoute ..)
    | cons n l =>
      have hcl : (s.view.st n).any RecState.isClosed = true :=
        (w.recs.at_ n).closed.mp (hc ▸ List.mem_cons_self : n ∈ s.records.closed)
      refine opened (w.freeRec fun x hx => .inr (by simpa [hx] using hcl)) (getRec_putRec_self ..) fun m q hq => ?_
      by_cases hm : n = m
      · subst hm; simp [State.freeRec] at hq
      · exact hl m q ((getRec_putRec_ne _ hm _).symm.trans hq)

theorem lookUp (t : TagFields) (serial : List Byte) : (s.lookUp t serial).Lawful B := by
  unfold State.lookUp
  cases hf : s.findSerial serial with
  | none => exact w.openFresh t (lacks_of_findSerial hf)
  | some n =>
    obtain ⟨r, hr, hser⟩ := findSerial_spec hf
    have hst := view_st_of hr
    have reopened (h : r.state = .hold ∨ r.state.isClosed = true) : (s.reopen n r t).Lawful B := by
      obtain ⟨away, hbank⟩ := w.unclose (n := n) fun x hx => by
        rw [hst] at hx; cases hx; exact h
      exact typeRec (s := (s.unclose n).raiseOpen) away hbank
        (w.recs.sound.fresh (view_recs_of hr) rfl) rfl rfl rfl
    simp only [hr]
    split
    case h_1 e => exact reopened (.inl e)
    case h_2 e => exact reopened (.inr (by rw [e]; rfl))
    case h_3 e =>
      have hn : ∀ x, s.view.st n = some x → x = .hold ∨ x.isClosed = true := fun x hx => by
        rw [hst] at hx; cases hx; exact .inr (by rw [e]; rfl)
      refine (w.freeRec hn).openFresh t fun m q hq es => ?_
      by_cases hm : n = m
      · subst hm; simp [State.freeRec] at hq
      · have hq' : s.getRec m = some q := (getRec_putRec_ne _ hm _).symm.trans hq
        exact hm (w.recs.sound.serial n m _ _ (view_recs_of hr) (view_recs_of hq') (hser.trans es.symm))
    case h_4 => exact w.of_view ((view_placeRoute ..).trans (view_modRec_same s n fun _ _ => rfl))

theorem intake (p : List Byte) : (s.intake p).1.Lawful B := by
  unfold State.intake; split
  · exact w
  · split
    · exact w
    · split
      · exact w
      · split
        · split
          · exact w.lookUp ..
          · exact w
        · exact w

/-! ## Findings (chapter 3) -/

/-- R56: the evaluation of a record in IDENTIFIED, INSPECTED or RETEST WAIT. -/
theorem evaluate {n : RecNo} (h : ∀ r, s.getRec n = some r → View.loose r.state = true) : (s.evaluate n).Lawful B := by
  unfold State.evaluate
  cases hr : s.getRec n with
  | none => exact w
  | some r =>
    dsimp only
    split
    case h_1 vd hv =>
      refine w.giveVerdict hr (h r hr) (fun why e => ?_) _
      subst e
      unfold earlyVerdict at hv
      repeat' split at hv
      all_goals cases hv
    case h_2 =>
      split
      case isTrue hst =>
        have hs := w.seated_of hr
        rw [hst] at hs
        rw [State.Lawful, view_modRec hr]
        exact (w.away (by rw [view_st_of hr]; exact h r hr)).to_loose (view_recs_of hr) rfl rfl hs rfl
          (references_of hst).symm
      case isFalse => exact w

theorem findingFor {n : RecNo} {r : Record} (hr : s.getRec n = some r) (f : FindingFields) :
    (s.findingFor n r f).1.Lawful B := by
  let g := applyFinding f (s.typeEntry r).tareLossLimit
  have hg (q : Record) : (g q).key = q.key := by
    simp only [g, applyFinding]; split <;> rfl
  have applied : (s.modRec n g).Lawful B := w.of_view (view_modRec_same s n fun q _ => hg q)
  have found {x : RecState} (hst : r.state = x) (hx : View.loose x = true) (q : Record)
      (hq : (s.modRec n g).getRec n = some q) : View.loose q.state = true := by
    rw [modRec_some hr, getRec_putRec_self] at hq
    cases hq
    have : (g r).state = r.state := congrArg RecKey.state (hg r)
    rw [this, hst]; exact hx
  unfold State.findingFor; dsimp only
  split
  case h_1 hst =>
    split
    · exact w
    · unfold State.closeTest; dsimp only
      split
      · exact applied
      · split
        · exact applied.evaluate (found hst rfl)
        · exact applied
  case h_2 hst =>
    split
    · exact w
    · exact applied.evaluate (found hst rfl)
  case h_3 hst =>
    split
    · exact w
    · exact applied.evaluate (found hst rfl)
  case h_4 => exact applied
  case h_5 => exact w

theorem findingFrame (p : List Byte) : (s.findingFrame p).1.Lawful B := by
  unfold State.findingFrame; split
  · exact w
  · split
    · exact w
    · split
      · exact w
      · split
        case h_1 => exact w
        case h_2 hr => exact w.findingFor hr _

/-! ## Arrivals, DONE frames and reports (chapter 7) -/

/-- R28, R135: a listed record leaves its list for HOLD. -/
theorem delist {a : Actuator} {n : RecNo} (hn : n ∈ s.view.lists a) (why : HoldReason) :
    ((s.dropFromList a n).holdRec n why).Lawful B := by
  have hst := ((w.recs.at_ n).listed a).mp hn
  obtain ⟨k, hk, hks⟩ := Option.map_eq_some_iff.mp hst
  obtain ⟨r, hr, rfl⟩ := (view_recs_iff ..).mp hk
  have hs := w.seated_of hr
  rw [show r.state = a.pendingState from hks] at hs
  rw [State.Lawful, State.holdRec, view_modRec (s := s.dropFromList a n) hr, view_dropFromList]
  refine (w.unlist_away hn).to_loose (view_recs_of hr) rfl rfl (hs.trans (by cases a <;> rfl)) rfl ?_
  cases a <;> exact (references_of hks).symm

/-- R146: an entry declared LOST leaves its list and is closed. -/
theorem declareLost {a : Actuator} {n : RecNo} (hn : n ∈ s.view.lists a) : (s.declareLost a n).Lawful B := by
  have hst := ((w.recs.at_ n).listed a).mp hn
  unfold State.declareLost
  split
  case h_2 => exact w
  case h_1 r hr =>
    have hrs : r.state = a.pendingState := by rw [view_st_of hr] at hst; exact Option.some.inj hst
    have hs := w.seated_of hr
    rw [hrs] at hs
    have hview : ((s.dropFromList a n).closeRec n .lost).view
        = { (s.view.setList a ((s.view.lists a).filter fun m => m != n)).setRec n (some { r.key with state := .lost }) with
            closed := s.view.closed ++ [n] } := by
      have := view_modRec (s := s.dropFromList a n) (n := n) (r := r) hr fun r => { r with state := .lost }
      rw [view_dropFromList] at this
      exact congrArg₂ (fun (v : View) c => ({ v with closed := c } : View)) this
        (congrArg (· ++ [n]) (congrArg View.closed this))
    rw [State.Lawful, view_offerNotice, view_tally, hview]
    exact (w.unlist_away hn).to_closed (view_recs_of hr) (k := { r.key with state := .lost }) rfl rfl
      (hs.trans (by cases a <;> rfl)) rfl ((references_of hrs).trans (by cases a <;> rfl))

omit w in
/-- R145: passing an entry by changes no other entry of the list, no other record's number and no dispatcher. -/
theorem passBy_others (a : Actuator) (m : RecNo) :
    (s.passBy a m).dispatch.disp = s.dispatch.disp
      ∧ (∀ x, x ≠ m → (x ∈ (s.passBy a m).view.lists a ↔ x ∈ s.view.lists a))
      ∧ ∀ x, x ≠ m → (s.passBy a m).getRec x = s.getRec x := by
  have kept (n : RecNo) (f : Record → Record) (t : State) : (t.modRec n f).dispatch = t.dispatch
      ∧ ∀ x, x ≠ n → (t.modRec n f).getRec x = t.getRec x := by
    unfold State.modRec; split
    · exact ⟨rfl, fun x hx => getRec_putRec_ne t (Ne.symm hx) _⟩
    · exact ⟨rfl, fun _ _ => rfl⟩
  unfold State.passBy; split
  · split
    · unfold State.declareLost; split
      · obtain ⟨hd, hr⟩ := kept m (fun r => { r with state := .lost }) (s.dropFromList a m)
        have hoffer (x : Notice) (t : State) : (t.offerNotice x).dispatch = t.dispatch
            ∧ ∀ n, (t.offerNotice x).getRec n = t.getRec n := by
          unfold State.offerNotice; split <;> exact ⟨rfl, fun _ => rfl⟩
        refine ⟨?_, fun x hx => ?_, fun x hx => ?_⟩
        · rw [(hoffer ..).1]
          show ((s.dropFromList a m).modRec m _).dispatch.disp = _
          rw [hd]; funext b; cases a <;> cases b <;> rfl
        · have : (s.dropFromList a m).view.lists a = (s.view.lists a).filter fun y => y != m := by
            rw [view_dropFromList]; simp [View.setList]
          rw [view_offerNotice, view_tally]
          show x ∈ ((s.dropFromList a m).modRec m _).dispatch.list a ↔ _
          rw [hd]
          change x ∈ (s.dropFromList a m).view.lists a ↔ _
          rw [this]; simp [hx]
        · rw [(hoffer ..).2]
          exact hr x hx
      · exact ⟨rfl, fun _ _ => .rfl, fun _ _ => rfl⟩
    · obtain ⟨hd, hr⟩ := kept m (fun r => { r with passedBy := r.passedBy + 1 }) s
      refine ⟨congrArg DispatchUnit.disp hd, fun x _ => ?_, hr⟩
      show x ∈ (s.modRec m _).dispatch.list a ↔ _
      rw [hd]; rfl
  · exact ⟨rfl, fun _ _ => .rfl, fun _ _ => rfl⟩

theorem passBy {a : Actuator} {m : RecNo} (hm : m ∈ s.view.lists a) : (s.passBy a m).Lawful B := by
  unfold State.passBy; split
  · split
    · exact w.declareLost hm
    · exact w.of_view (view_modRec_same s m fun _ _ => rfl)
  · exact w

/-- R145, step 1: the entries ahead are passed by in turn; the matched one stays where it is. -/
theorem passByAll {a : Actuator} {n : RecNo} {l : List RecNo} (hl : ∀ m ∈ l, m ∈ s.view.lists a) (hd : l.Nodup)
    (hn : n ∉ l) : (l.foldl (State.passBy a) s).Lawful B
      ∧ (n ∈ s.view.lists a → n ∈ (l.foldl (State.passBy a) s).view.lists a)
      ∧ (l.foldl (State.passBy a) s).dispatch.disp = s.dispatch.disp := by
  induction l generalizing s with
  | nil => exact ⟨w, id, rfl⟩
  | cons m l ih =>
    obtain ⟨hm, hd⟩ := List.nodup_cons.mp hd
    obtain ⟨hnm, hn⟩ := not_or.mp (mt List.mem_cons.mpr hn)
    obtain ⟨hdisp, hlist, -⟩ := passBy_others (s := s) a m
    obtain ⟨h1, h2, h3⟩ := ih (w.passBy (hl m List.mem_cons_self)) (fun x hx => (hlist x fun e => hm (e ▸ hx)).mpr
      (hl x (List.mem_cons_of_mem m hx))) hd hn
    exact ⟨h1, fun h => h2 ((hlist n hnm).mpr h), h3.trans hdisp⟩

/-- R145: a matched record leaves its list for the actuator. -/
theorem matched {a : Actuator} {n : RecNo} {r : Record} (hn : n ∈ s.view.lists a) (hr : s.getRec n = some r)
    (hidle : s.dispatch.disp a = .idle) (addr : Byte) : (s.matched a addr n r).Lawful B := by
  have hst := ((w.recs.at_ n).listed a).mp hn
  have hrs : r.state = a.pendingState := by rw [view_st_of hr] at hst; exact Option.some.inj hst
  have hs := w.seated_of hr
  rw [hrs] at hs
  unfold State.matched
  rw [State.Lawful, view_setDisp, view_offer, view_modRec (s := s.dropFromList a n) hr, view_dropFromList]
  refine (w.unlist_away hn).to_flying (view_recs_of hr) (k := { r.key with state := a.atState }) rfl rfl (hs.trans (by cases a <;> rfl)) rfl
    ((references_of hrs).trans (by cases a <;> rfl)) ?_
  show (s.dispatch.disp a).flying = none
  rw [hidle]; rfl

/-- R144, R148: a dispatcher that waits for no STAMP or CONDEMN waits for none while it refuses. -/
theorem refuse {a : Actuator} (hf : (s.dispatch.disp a).flying = none) (addr : Byte) (field : List Byte) :
    (s.refuse a addr field).Lawful B := by
  unfold State.refuse
  exact w.of_view ((view_setDisp ..).trans (View.setFlying_self hf))

theorem arrivalOf {a : Actuator} (hidle : s.dispatch.disp a = .idle) (addr : Byte) (field serial : List Byte) :
    (s.arrivalOf a addr field serial).Lawful B := by
  unfold State.arrivalOf
  cases hl : s.onList a serial with
  | some n =>
    dsimp only
    obtain ⟨hn, -⟩ := onList_spec hl
    have hsub : (ahead n (s.dispatch.list a)).Sublist (s.dispatch.list a) := List.takeWhile_sublist _
    have hnot : n ∉ ahead n (s.dispatch.list a) := fun e => by
      have := List.mem_takeWhile_imp e; simp at this
    obtain ⟨h1, h2, h3⟩ := w.passByAll (fun m hm => hsub.subset hm) ((w.recs.sound.lists a).sublist hsub) hnot
    split
    case h_1 r hr => exact h1.matched (h2 hn) hr ((congrFun h3 a).trans hidle) addr
    case h_2 => exact h1
  | none =>
    dsimp only
    unfold State.unmatched
    cases ho : s.onList a.other serial with
    | some n =>
      dsimp only
      refine (w.delist (onList_spec ho).1 .misroute).refuse ?_ addr field
      have hd : ((s.dropFromList a.other n).holdRec n .misroute).dispatch.disp a = s.dispatch.disp a := by
        unfold State.holdRec State.modRec
        split <;> cases a <;> rfl
      rw [hd, hidle]; rfl
    | none => exact w.refuse (by rw [hidle]; rfl) addr field

theorem arrival (a : Actuator) (addr : Byte) (p : List Byte) : (s.arrival a addr p).1.Lawful B := by
  unfold State.arrival; split
  · exact w
  · split
    · exact w
    · split
      case isTrue => exact w
      case isFalse hidle =>
        have hi := not_not.mp hidle
        split
        · exact w.refuse (by rw [hi]; rfl) ..
        · exact w.arrivalOf hi ..

/-- R150, R151: a record leaves the actuator for HOLD, the dispatcher IDLE. -/
theorem land_hold {a : Actuator} {c : InFlight} (hc : s.dispatch.disp a = .acting c) (why : HoldReason) :
    ((s.holdRec c.record why).setDisp a .idle).Lawful B := by
  have hfly : s.view.flying a = some c.record := by simp [State.view, hc, ActDispatcher.flying]
  have hst := ((w.recs.at_ c.record).flying a).mp hfly
  obtain ⟨k, hk, hks⟩ := Option.map_eq_some_iff.mp hst
  obtain ⟨r, hr, rfl⟩ := (view_recs_iff ..).mp hk
  have hrs : r.state = a.atState := hks
  have hs := w.seated_of hr
  rw [hrs] at hs
  rw [State.Lawful, view_setDisp, State.holdRec, view_modRec hr]
  exact (w.land_away hfly).to_loose (view_recs_of hr) (k := { r.key with state := .hold }) rfl rfl
    (hs.trans (by cases a <;> rfl)) rfl (by cases a <;> exact (references_of hrs).symm)

/-- R150: a record closed at the actuator, the dispatcher IDLE. -/
theorem land_close {a : Actuator} {c : InFlight} (hc : s.dispatch.disp a = .acting c) :
    ((s.closeRec c.record a.doneState).setDisp a .idle).Lawful B := by
  have hfly : s.view.flying a = some c.record := by simp [State.view, hc, ActDispatcher.flying]
  have hst := ((w.recs.at_ c.record).flying a).mp hfly
  obtain ⟨k, hk, hks⟩ := Option.map_eq_some_iff.mp hst
  obtain ⟨r, hr, rfl⟩ := (view_recs_iff ..).mp hk
  have hrs : r.state = a.atState := hks
  have hs := w.seated_of hr
  rw [hrs] at hs
  have hview : (s.closeRec c.record a.doneState).view
      = { s.view.setRec c.record (some { r.key with state := a.doneState }) with
          closed := s.view.closed ++ [c.record] } := by
    have := view_modRec hr fun r => { r with state := a.doneState }
    exact congrArg₂ (fun (v : View) c => ({ v with closed := c } : View)) this
      (congrArg (· ++ [c.record]) (congrArg View.closed this))
  rw [State.Lawful, view_setDisp, hview]
  exact (w.land_away hfly).to_closed (view_recs_of hr) (k := { r.key with state := a.doneState }) rfl
    (by cases a <;> rfl) (hs.trans (by cases a <;> rfl)) rfl ((references_of hrs).trans (by cases a <;> rfl))

theorem doneFrame (a : Actuator) (p : List Byte) : (s.doneFrame a p).Lawful B := by
  unfold State.doneFrame; split
  case h_1 hc =>
    split
    · split
      · exact w.land_close hc
      · split
        · exact w.land_hold hc _
        · exact w
    · exact w
  case h_2 => exact w

theorem unconfirmed {a : Actuator} {c : InFlight} (hc : s.dispatch.disp a = .acting c) : (s.unconfirmed a c).Lawful B := by
  have h := w.land_hold hc a.unconfirmedReason
  refine h.of_view ?_
  rw [State.unconfirmed, view_setDisp, view_setOffline, view_setDisp]

theorem actExpiry (a : Actuator) : (s.actExpiry a).Lawful B := by
  unfold State.actExpiry; split
  case h_1 hc =>
    split
    · exact w.unconfirmed hc
    · exact w
  case h_2 => exact w

theorem actReport (a : Actuator) (o : Order) (taken : Bool) : (s.actReport a o taken).Lawful B := by
  unfold State.actReport; split
  · exact w.of_view (view_setStale ..)
  · split
    case h_1 => exact w
    case h_2 hd =>
      have hf : s.view.flying a = none := by simp [State.view, hd, ActDispatcher.flying]
      split
      · rw [State.Lawful, view_setDisp]
        have same : (if taken = true then s else s.setOffline a true).view = s.view := by
          split <;> [rfl; exact view_setOffline ..]
        have idle : s.view.setFlying a ActDispatcher.idle.flying = s.view := View.setFlying_self hf
        rw [same, idle]
        exact w
      · exact w
    case h_3 hc =>
      split
      · exact w.unconfirmed hc
      · exact w

theorem unrouted (e : RouteEntry) : (s.unrouted e).Lawful B := by
  have onList {n : RecNo} {r : Record} (hr : s.getRec n = some r) {a : Actuator} (hst : r.state = a.pendingState) :
      n ∈ s.view.lists a := ((w.recs.at_ n).listed a).mpr (by rw [view_st_of hr, hst])
  unfold State.unrouted; split
  · exact w
  · split
    case h_1 => exact w
    case h_2 hr =>
      split
      · split
        case isTrue hst => exact w.delist (onList hr (a := .press) hst) _
        case isFalse =>
          split
          case isTrue hst => exact w.delist (onList hr (a := .scrapCell) hst) _
          case isFalse => exact w
      · exact w

theorem routeReport (taken : Bool) : (s.routeReport taken).Lawful B := by
  unfold State.routeReport; split
  · exact w.of_view (view_updDispatch s rfl fun _ => rfl)
  · split
    · split
      · exact w.of_view (view_popRoute _)
      · have marked : (s.updDispatch fun d => { d with diverterOffline := true }).Lawful B :=
          w.of_view (view_updDispatch s rfl fun _ => rfl)
        exact (marked.unrouted _).of_view (view_popRoute _)
    · exact w.of_view (view_popRoute _)
    · exact w

end State.Lawful

end Sys2Proof.Machine
end


section
/-!
PROOFS. The record law and the bank law kept by the requests, by a line reset, ring loss and a power-on reset, and so by
every event and every step.
-/

namespace Sys2Proof.Machine

/-! ## An empty line (R2, R19, R44, R84) -/

/-- There are two banks. -/
theorem BankId.eq_other : ∀ {j k : BankId}, j ≠ k → j = k.other
  | .a, .a, h | .b, .b, h => absurd rfl h
  | .a, .b, _ | .b, .a, _ => rfl

namespace View

/-- With no record, no place holds one. -/
theorem recLaw_empty {v : View} (hr : ∀ n, v.recs n = none) (hl : ∀ a, v.lists a = []) (hc : v.closed = [])
    (hh : ∀ i, v.held i = none) (ht : ∀ i, v.testing i = false) (hf : ∀ a, v.flying a = none) : v.RecLaw := by
  refine ⟨⟨fun a => by simp [hl], by simp [hc], fun i => by simp [hh, ht], fun i j n e => by simp [hh] at e,
    fun m n k q e => by simp [hr] at e⟩, fun n => lawAt_loose ⟨?_, ?_, ?_, ?_⟩ fun k e => by simp [hr] at e⟩
  · simp [hl]
  · simp [hc]
  · simp [hh]
  · simp [hf]

/-- With no record and no reference, one bank ACTIVE is all the bank law asks. -/
theorem bankLaw_empty {v : View} (hr : ∀ n, v.recs n = none) (h0 : ∀ k, (v.banks k).refs = 0) (h1 : v.OneActive) :
    v.BankLaw :=
  ⟨h1, fun k => by rw [h0]; simp [named, hr], fun k _ => h0 k, fun n r e => by simp [hr] at e⟩

/-- R12, R17: a STANDBY bank made ACTIVE with the next generation, the old one RETIRING while records name it. -/
theorem BankLaw.activate {v : View} (h : v.BankLaw) {k : BankId} (hk : (v.banks k).state = .active)
    (ho : (v.banks k.other).state = .standby) (g : Byte) {x y : BankKey}
    (hx : x = ⟨if 0 < (v.banks k).refs then .retiring else .standby, (v.banks k).gen, (v.banks k).refs⟩)
    (hy : y = ⟨.active, g, (v.banks k.other).refs⟩) :
    BankLaw { v with banks := Function.update (Function.update v.banks k x) k.other y } := by
  have hne : k ≠ k.other := by cases k <;> decide
  let b := Function.update (Function.update v.banks k x) k.other y
  have hbk : b k = x := by simp [b, hne]
  have hbo : b k.other = y := by simp [b]
  have cases_k (P : BankId → Prop) (h1 : P k) (h2 : P k.other) (j : BankId) : P j := by
    cases k <;> cases j <;> assumption
  have hxs : x.state ≠ .active := by rw [hx]; dsimp only; split <;> decide
  refine ⟨?_, cases_k _ ?_ ?_, cases_k _ ?_ ?_, fun n r e => ?_⟩
  · have h1 : (b k).state ≠ .active := by rw [hbk]; exact hxs
    have h2 : (b k.other).state = .active := by rw [hbo, hy]
    cases k
    · exact iff_of_false h1 (fun e => e h2)
    · exact iff_of_true h2 h1
  · exact (congrArg BankKey.refs hbk).trans (by rw [hx]; exact h.refs k)
  · exact (congrArg BankKey.refs hbo).trans (by rw [hy]; exact h.refs k.other)
  · show (b k).state = .standby → (b k).refs = 0
    rw [hbk, hx]; dsimp only
    split
    · exact nofun
    · intro _; omega
  · show (b k.other).state = .standby → (b k.other).refs = 0
    rw [hbo, hy]; exact nofun
  · obtain ⟨h1, h2⟩ := h.refers n r e
    refine ⟨h1, fun c hc => (h2 c hc).trans ?_⟩
    have hck : c.bank = k := by
      by_contra hne'
      have hco : c.bank = k.other := BankId.eq_other hne'
      have hpos : 0 < v.named k.other := by
        refine List.countP_pos_iff.mpr ⟨n, List.mem_finRange n, ?_⟩
        have hr : v.recs n = some r := e
        simp [hr, Option.mem_def.mp hc, hco]
      have := h.standby _ ho
      rw [h.refs] at this; omega
    show (v.banks c.bank).gen = (b c.bank).gen
    rw [hck, hbk, hx]

end View

/-- After a power-on reset there is no record and bank A alone is ACTIVE (R2, R21, R62, R133). -/
theorem State.lawful_restart (B : Prop) (s : State) : s.restart.Lawful B := by
  have hr (n : RecNo) : s.restart.view.recs n = none := by
    simp [State.view, State.getRec, State.restart, State.powerOn]
  refine ⟨View.recLaw_empty hr (fun a => by cases a <;> rfl) rfl (fun i => ?_) (fun i => ?_)
    (fun a => by cases a <;> rfl), fun _ => View.bankLaw_empty hr (fun k => by cases k <;> rfl) ?_⟩
  · simp [State.view, State.station, State.restart, State.powerOn, Station.blank]
  · simp [State.view, State.station, State.restart, State.powerOn, Station.blank, Station.testing, StState.inCycle]
  · exact iff_of_true rfl nofun

namespace State.Lawful
variable {B : Prop} {s : State} (w : s.Lawful B)
include w

/-! ## Requests (chapters 1, 4 and 9) -/

theorem writeType (args : List Byte) : (Machine.writeType args s).state.Lawful B := by
  have written (k : BankId) (c : TypeCode) (e : TypeEntry) : (s.setBank k ((s.banks.get k).putType c e)).Lawful B :=
    w.of_view (view_setBank_same s rfl)
  unfold Machine.writeType; split
  · split
    · exact w
    · dsimp only
      split
      · split
        · exact w
        · exact written ..
      · exact written ..
  · exact w

theorem writeMatch (args : List Byte) : (Machine.writeMatch args s).state.Lawful B := by
  have written (k : BankId) (i : Fin 64) (m : MatchEntry) : (s.setBank k ((s.banks.get k).putMatch i m)).Lawful B :=
    w.of_view (view_setBank_same s rfl)
  unfold Machine.writeMatch; split
  · split
    · exact w
    · split
      · split
        · exact written ..
        · exact w
      · exact written ..
  · exact w

theorem copyBank : (Machine.copyBank s).state.Lawful B := by
  unfold Machine.copyBank; dsimp only; split
  · exact w
  · exact w.of_view (view_setBank_same s rfl)

theorem activate : (Machine.activate s).state.Lawful B := by
  unfold Machine.activate; dsimp only; split
  case isTrue => exact w
  case isFalse hret =>
    split
    case isFalse => exact w
    case isTrue =>
      let k := s.banks.activeId
      have hne : k.other ≠ k := by cases k <;> decide
      rw [doneWith_state, State.Lawful, view_setBank, view_setBank]
      refine ⟨View.RecLaw.with_banks w.recs _, fun hB => ?_⟩
      have hlaw := w.banks hB
      have hact : (s.view.banks k).state = .active := View.BankLaw.activeId hlaw
      have hone := hlaw.one
      have hother : (s.view.banks k.other).state = .standby := by
        have hna : (s.view.banks k.other).state ≠ .active := by
          unfold View.OneActive at hone
          revert hact; generalize k = j; cases j
          · exact fun h => hone.mp h
          · exact fun h e => hone.mp e h
        have hnr : (s.view.banks k.other).state ≠ .retiring := hret
        cases e : (s.view.banks k.other).state <;> first | rfl | contradiction
      exact hlaw.activate hact hother _ rfl rfl

theorem writeStation (args : List Byte) : (Machine.writeStation args s).state.Lawful B := by
  have config (i : StationNo) (c : StationConfig) : (s.updStation i fun st => { st with cfg := c }).Lawful B :=
    w.of_view (view_updStation_same s i rfl rfl)
  unfold Machine.writeStation; split
  · exact w
  · dsimp only; split
    · exact w
    · split
      · exact config ..
      · split
        · exact w
        · exact config ..

theorem emptied {i : StationNo} (h : (s.station i).state.inCycle = false) (into : StState) (hinto : into.inCycle = false) :
    (s.updStation i (·.emptied into)).Lawful B := by
  rw [State.Lawful, view_updStation_release s i rfl (testing_of_state hinto)]
  exact w.idle (testing_of_state h)

theorem takeOut (i : StationNo) : (s.takeOut i).Lawful B := by
  have leave {t : State} (wt : t.Lawful B) : (t.updStation i fun st => { st with leaving := true }).Lawful B :=
    wt.of_view (view_updStation_same t i rfl rfl)
  unfold State.takeOut; dsimp only
  split
  case h_1 => exact w
  case h_2 hst => exact w.emptied (by rw [hst]; rfl) _ rfl
  case h_3 hst => exact w.emptied (by rw [hst]; rfl) _ rfl
  case h_4 hst => exact w.emptied (by rw [hst]; rfl) _ rfl
  case h_5 => exact leave w
  case h_6 => exact leave (w.abortTest ..)

theorem vacantNow {i : StationNo} (h : (s.station i).state.inCycle = false) : (s.vacantNow i).Lawful B := by
  rw [State.Lawful, view_vacantNow]
  exact w.idle (testing_of_state h)

theorem setService (args : List Byte) : (Machine.setService args s).state.Lawful B := by
  unfold Machine.setService; split
  · unfold serviceIn; split
    · exact w
    · split
      · exact w
      · split
        · exact w
        · split
          case isTrue hst => exact w.vacantNow (by rw [hst]; rfl)
          case isFalse => exact w
  · split
    · unfold serviceOut; split
      · exact w
      · exact w.takeOut _
    · exact w

theorem clearFault (args : List Byte) : (Machine.clearFault args s).state.Lawful B := by
  unfold Machine.clearFault; split
  · exact w
  · split
    case h_1 hst => exact w.vacantNow (by rw [hst]; rfl)
    case h_2 hst => exact w.vacantNow (by rw [hst]; rfl)
    all_goals exact w

theorem removeRecord (args : List Byte) : (Machine.removeRecord args s).state.Lawful B := by
  unfold Machine.removeRecord; split
  · exact w
  · split
    · exact w
    case h_2 hr =>
      split
      case isTrue hst =>
        refine w.freeRec fun x hx => ?_
        rw [view_st_of hr] at hx; cases hx
        exact hst
      case isFalse => exact w

/-- R19, R44, R84, R155: a line reset empties the line. -/
theorem lineReset : s.lineReset.Lawful B := by
  unfold State.lineReset
  rw [State.Lawful, view_abortResync]
  have station (i : StationNo) : (s.stations.map Station.lineReset)[i] = (s.station i).lineReset := by
    simp [State.station]
  have idle (i : StationNo) : (s.station i).lineReset.testing = false ∧ (s.station i).lineReset.record = none := by
    unfold Station.lineReset
    split
    case isTrue => exact ⟨rfl, rfl⟩
    case isFalse hw =>
      have hc : (s.station i).state.inCycle = false := by
        revert hw; cases (s.station i).state <;> decide
      have hi := testing_of_state hc
      have hr := w.record_of_idle hi
      split <;> exact ⟨hi, hr⟩
  have key (x : Bank) : x.lineReset.key.refs = 0 ∧ (x.lineReset.key.state = .active ↔ x.state = .active) := by
    refine ⟨rfl, ?_⟩
    simp only [Bank.lineReset, Bank.key]
    split
    case isTrue h => simp [h]
    case isFalse => rfl
  refine ⟨View.recLaw_empty (fun n => ?_) (fun a => by cases a <;> rfl) rfl (fun i => ?_) (fun i => ?_)
    (fun a => by cases a <;> rfl), fun hB => View.bankLaw_empty (fun n => ?_) (fun k => by cases k <;> rfl) ?_⟩
  · simp [State.view, State.getRec, RecordTable.lineReset]
  · exact (congrArg Station.record (station i)).trans (idle i).2
  · exact (congrArg Station.testing (station i)).trans (idle i).1
  · simp [State.view, State.getRec, RecordTable.lineReset]
  · have hone := (w.banks hB).one
    exact (key s.banks.a).2.trans (hone.trans (not_congr (key s.banks.b).2).symm)

/-- R179 to R189: a request carried out. -/
theorem serve (code : Byte) (args : List Byte) : (Machine.serve code args s).state.Lawful B := by
  unfold Machine.serve
  split
  case h_1 => unfold readType; split <;> exact w
  case h_2 => exact w.writeType args
  case h_3 => unfold readMatch; split <;> exact w
  case h_4 => exact w.writeMatch args
  case h_5 => exact w.copyBank
  case h_6 => exact w.activate
  case h_7 => exact w
  case h_8 => unfold readRole; split <;> exact w
  case h_9 =>
    unfold writeRole; dsimp only; split
    · exact w
    · split
      · exact w
      · split
        · exact w
        · split
          · exact w
          · split
            · exact w
            · exact w.of_view (view_setRole ..)
  case h_10 => unfold readStation; split <;> exact w
  case h_11 => exact w.writeStation args
  case h_12 => exact w.setService args
  case h_13 => exact w.clearFault args
  case h_14 =>
    unfold readRecord; dsimp only; split
    · split <;> exact w
    · split
      · exact w
      · split <;> exact w
  case h_15 => exact w.removeRecord args
  case h_16 =>
    unfold setCalendar; dsimp only; split
    · exact w.of_view (view_updMgmt ..)
    · exact w
  case h_17 =>
    unfold openGate; split
    · exact w
    · exact w.of_view (view_setGate ..)
  case h_18 => exact w.of_view (view_setGate ..)
  case h_19 =>
    unfold readTallies; dsimp only; split
    · exact w
    · exact w
    · exact w.of_view (view_updMgmt ..)
    · exact w.of_view (view_updMgmt ..)
    · exact w
  case h_20 => exact w
  case h_21 => exact w
  case h_22 => rw [doneWith_state]; exact w.lineReset
  case h_23 => exact w

theorem request (src : Byte) (p : List Byte) : (s.request src p).1.Lawful B := by
  have answered {a : Answer} (ha : a.state.Lawful B) (dst tag code : Byte) : (State.answer dst tag code a).Lawful B :=
    ha.of_view (by rw [State.answer, State.reply, view_updMgmt, view_offer, view_pumpRoute])
  unfold State.request; split
  · exact w
  · split
    · split
      · unfold State.serveRequest; split
        · exact answered w ..
        · split
          · split
            · exact w.of_view (view_updMgmt ..)
            · exact answered (w.serve ..) ..
          · exact answered w ..
      · exact answered w ..
    · exact w

theorem writeComplete : s.writeComplete.Lawful B := by
  unfold State.writeComplete; split
  · dsimp only; split <;> exact w
  · exact w

/-! ## Frames and their reports (R161, R166, R169) -/

theorem stationFrame (i : StationNo) (f : Frame) : (s.stationFrame i f).Lawful B := by
  have h1 : State.Lawful B (if (s.station i).state = .outOfService then s
      else s.updStation i fun st => { st with lastFrame := s.clock }) := by
    split
    · exact w
    · exact w.of_view (view_updStation_same s i rfl rfl)
  unfold State.stationFrame; dsimp only
  split
  · split
    · exact h1.sampleEvent ..
    · exact h1
  · split
    · split
      · exact h1.seatedEvent ..
      · exact h1.sealFaultEvent ..
      · exact h1.reachedEvent ..
      · exact h1.ventedEvent ..
      · exact h1.releasedEvent ..
      · exact h1.burstEvent ..
      · exact h1
    · exact h1

theorem roleFrame (r : Role) (f : Frame) : (s.roleFrame r f).1.Lawful B := by
  unfold State.roleFrame; split
  · exact w
  · split
    · unfold State.tagFrame; split
      · exact w.intake ..
      · exact w.arrival ..
      · exact w.arrival ..
      · exact w
    · split
      · split
        · exact w.findingFrame ..
        · exact w
      · split
        · unfold State.doneByRole; split
          · exact w.doneFrame ..
          · exact w.doneFrame ..
          · exact w
        · exact w

theorem handle (f : Frame) : (s.handle f).1.Lawful B := by
  unfold State.handle; split
  · exact w.request ..
  · split
    · exact w.stationFrame ..
    · exact w.roleFrame ..

theorem report (q : OwnFrame) (taken : Bool) : (s.report q taken).Lawful B := by
  unfold State.report; split
  · split
    · exact w
    · exact w.stationUnreachable ..
  · exact w.actReport ..
  · exact w.actReport ..
  · exact w.routeReport ..
  · split
    · exact w
    · exact w
  · exact w
  · exact w

theorem failedPassage (x : Flight) : (s.failedPassage x).Lawful B := by
  unfold State.failedPassage; dsimp only
  split
  · exact w
  · exact report (s := (State.dropFlight x (s.tally .notTaken)).updPort _) w ..

theorem ownReturn (f : Frame) : (s.ownReturn f).Lawful B := by
  unfold State.ownReturn; split
  · exact w
  · split
    · exact report (s := (State.dropFlight _ s).updPort _) w ..
    · exact w.failedPassage _

theorem returnExpiry (seq : Byte) : (s.returnExpiry seq).Lawful B := by
  unfold State.returnExpiry; split
  · split
    · exact w.failedPassage _
    · exact w
  · exact w

theorem classify (f : Frame) : (s.classify f).Lawful B := by
  unfold State.classify; split
  · exact w.ownReturn f
  · split
    · exact (w.handle f).of_view (view_store ..)
    · exact w

theorem ringUp : s.ringUp.Lawful B := by
  unfold State.ringUp
  exact w.of_view ((view_endEvent _).trans (view_abortResync _))

theorem validFrame (f : Frame) : (s.validFrame f).Lawful B := by
  have found : State.Lawful B (if s.active.port.monitor = .down then s.active.ringUp else s.active) := by
    split
    · exact ringUp (s := s.active) w
    · exact w
  exact ((found.of_view (view_clearOffline ..)).classify f).of_view (view_endEvent _)

theorem arrive (f : Option Frame) : (s.arrive f).Lawful B := by
  unfold State.arrive; split
  · exact w
  · dsimp only
    split
    · split
      · exact validFrame (s := (s.updPort _).tally .received) w _
      · exact w
    · exact w

/-! ## Ring loss (R85, R156, R171) -/

theorem stationLoss (i : StationNo) : (s.stationLoss i).Lawful B := by
  unfold State.stationLoss; split
  · rw [State.Lawful, view_updStation_release _ i rfl rfl]
    exact w.endTest i _
  · exact w

theorem actLoss (a : Actuator) : (s.actLoss a).Lawful B := by
  unfold State.actLoss; split
  case h_1 hc => exact w.land_hold hc _
  case h_2 hd =>
    exact w.of_view ((view_setDisp ..).trans (View.setFlying_self (by simp [State.view, hd, ActDispatcher.flying])))
  case h_3 => exact w

theorem dispatchLoss : s.dispatchLoss.Lawful B := by
  unfold State.dispatchLoss
  exact ((w.actLoss .press).actLoss .scrapCell).of_view (view_updDispatch _ rfl fun _ => rfl)

theorem mgmtLoss : s.mgmtLoss.Lawful B := by
  unfold State.mgmtLoss
  exact w.of_view rfl

theorem lose : s.lose.Lawful B := by
  have stations (l : List StationNo) {t : State} (wt : t.Lawful B) : (l.foldl State.stationLoss t).Lawful B := by
    induction l generalizing t with
    | nil => exact wt
    | cons i l ih => exact ih (wt.stationLoss i)
  have h1 := stations (List.finRange 8) (t := s.updPort RingPort.loss) w
  exact h1.dispatchLoss.mgmtLoss

/-- Every event keeps both laws. -/
theorem event {t : State} (h : s.Event t) : t.Lawful B := by
  cases h with
  | restarts => exact State.lawful_restart B s
  | begins => unfold State.beginArrival; split <;> exact w
  | active => exact w
  | arrives f => exact w.arrive f
  | returns seq => exact (w.returnExpiry seq).of_view (view_endEvent _)
  | arbitrates => unfold State.arbitrate; split <;> exact w
  | sends => exact w
  | forwards => exact w
  | loses =>
    split
    · exact w.lose
    · exact w
  | writes => exact w.writeComplete
  | scans =>
    split
    · exact w.scan
    · exact w
  | zeroExpires i => exact (w.zeroExpiry i).of_view (view_endEvent _)
  | stepExpires i => exact (w.stepExpiry i).of_view (view_endEvent _)
  | holdExpires i => exact (w.phaseEndExpiry i _).of_view (view_endEvent _)
  | settleExpires i => exact (w.phaseEndExpiry i _).of_view (view_endEvent _)
  | checks i => exact (w.extensionExpiry i).of_view (view_endEvent _)
  | ventExpires i => exact (w.ventExpiry i).of_view (view_endEvent _)
  | releaseExpires i => exact (w.releaseExpiry i).of_view (view_endEvent _)
  | actExpires a => exact w.actExpiry a

end State.Lawful

/-- Both laws are kept by every step. -/
theorem step_keeps_lawful {B : Prop} {s t : State} (w : s.Lawful B) (h : step s = .next t) : t.Lawful B :=
  step_keeps (P := State.Lawful B) (fun _ _ w => w) (fun _ _ w => w) (fun w e => w.event e) w h

/-- Settles O6: the record law of the view, with no premise on the banks. -/
theorem everyStepKeepsTheRecordLaw : Obligations.EveryStepKeepsTheRecordLaw := by
  intro s t hrec hst
  have w : s.Lawful False := ⟨(recordLaw_iff s).mp hrec, nofun⟩
  exact (recordLaw_iff t).mpr (step_keeps_lawful w hst).recs

/-- Settles O7: both laws of the view together. -/
theorem everyStepKeepsTheBankLaw : Obligations.EveryStepKeepsTheBankLaw := by
  intro s t hrec hbank hst
  have w : s.Lawful True := ⟨(recordLaw_iff s).mp hrec, fun _ => (bankLaw_iff s).mp hbank⟩
  exact (bankLaw_iff t).mpr ((step_keeps_lawful w hst).banks trivial)

end Sys2Proof.Machine
end


section
/-!
PROOFS. A step and the commands that are frames, power-on reset, and the laws at reset (R2, R21, R62, R133, R173, R188).
-/

namespace Sys2Proof.Machine

/-- Settles O1: by the two cases of the queue of commands. -/
theorem stepRunsTheFrontCommand : Obligations.StepRunsTheFrontCommand := by
  constructor
  · intro c rest s h
    unfold step; split
    case h_1 e => cases h.symm.trans e; rfl
    case h_2 e => cases h.symm.trans e
  · intro s h
    unfold step; split
    case h_1 e => cases h.symm.trans e
    case h_2 => rfl

/-- Settles O2: each of these commands composes the frame of its kind and payload. -/
theorem frameCommandsAreFrames : Obligations.FrameCommandsAreFrames := by
  intro s h p a g x k
  and_intros <;> rfl

/-- Settles O3: every block but the Option Store and the latched options is a constant after a restart. -/
theorem powerOnResetValues : Obligations.PowerOnResetValues := by
  intro s
  refine ⟨s.restart, rfl, rfl, rfl, rfl, fun k => ?banks, fun n => ?recs, rfl, rfl, fun i => ?stations, rfl,
    fun k => ?sources, rfl, rfl, rfl, rfl, rfl, rfl, rfl, rfl, rfl, rfl, rfl, rfl, fun i => ?roles, rfl, ?sound, ?latched,
    ?store⟩
  case banks =>
    have hk : s.restart.banks.get k = Bank.blank (if k = .a then .active else .standby) := by cases k <;> rfl
    simp [hk, Bank.blank]
  case recs => simp [State.restart, State.powerOn, State.getRec]
  case stations => simp [State.restart, State.powerOn, State.station, Station.blank]
  case sources => simp [State.restart, State.powerOn, RingPort.blank, RingPort.source]
  case roles => simp [State.restart, State.powerOn]
  case sound =>
    show s.storeAtPowerOn.latch.2 = _
    cases h : s.storeAtPowerOn <;> simp [OptionStore.latch, State.restart, State.powerOn, h]
  case latched =>
    show s.storeAtPowerOn.latch.1 = _
    cases h : s.storeAtPowerOn <;> simp [OptionStore.latch, State.restart, State.powerOn, h, Options.factory]
  case store =>
    show match s.mgmt.responder with
      | .working w => s.storeAtPowerOn = s.mgmt.store ∨ s.storeAtPowerOn = .holds w.options
      | _ => s.storeAtPowerOn = s.mgmt.store
    cases h : s.mgmt.responder with
    | working w =>
      simp only [State.storeAtPowerOn, h]
      split
      · exact .inr rfl
      · exact .inl rfl
    | _ => simp [State.storeAtPowerOn, h]

/-- Settles O4: the state after reset is the one that a power-on reset leaves. -/
theorem lawsHoldAtReset : Obligations.LawsHoldAtReset := by
  have w : State.reset.Lawful True := State.lawful_restart True State.reset
  obtain ⟨⟨hno, ⟨hro, hlist⟩, hwin, htal⟩, htr, hrow⟩ : State.reset.Sized 4 := sized_restart State.reset
  exact ⟨⟨htr, Nat.zero_le _, Nat.zero_le _, hrow, hno, hro, hlist .press, hlist .scrapCell, hwin, htal⟩,
    (recordLaw_iff _).mpr w.recs, (bankLaw_iff _).mpr (w.banks trivial), RingPort.law_blank⟩

end Sys2Proof.Machine
end


section
/-!
PROOFS. The Ring Port round its owners' handling: offers and the end of an event (R163, R138, R185), what arrives and what
leaves (R158, R159, R164), and the frames that nothing acts on (R160, R161).
-/

namespace Sys2Proof.Machine

/-! ## Offers and the end of an event (R138, R163, R185) -/

/-- R163: an offer from a free source joins the Inject Queue. -/
theorem offer_free {p : RingPort} {q : OwnFrame} (h : (p.source q.src).cond = .free) :
    p.offer q = { p.setSource q.src { p.source q.src with cond := .queued } with queue := p.queue ++ [q] } := by
  unfold RingPort.offer; rw [h]

/-- R163: an offer from a busy source waits in the slot while the ring is UP. -/
theorem offer_busy_up {p : RingPort} {q : OwnFrame} (h : (p.source q.src).cond ≠ .free) (hm : p.monitor = .up) :
    p.offer q = p.setSource q.src { p.source q.src with slot := some q } := by
  unfold RingPort.offer
  split
  · contradiction
  · rw [hm]

/-- R163: an offer from a busy source is discarded while the ring is DOWN. -/
theorem offer_busy_down {p : RingPort} {q : OwnFrame} (h : (p.source q.src).cond ≠ .free) (hm : p.monitor = .down) :
    p.offer q = p := by
  unfold RingPort.offer
  split
  · contradiction
  · rw [hm]

/-- R163: an offer leaves the frames that wait in the Inject Queue where they are. -/
theorem offer_queue (p : RingPort) (q : OwnFrame) : ∃ l, (p.offer q).queue = p.queue ++ l := by
  unfold RingPort.offer
  split
  · exact ⟨[q], rfl⟩
  · split <;> exact ⟨[], by simp [RingPort.setSource]⟩

theorem pumpRoute_queue (s : State) : ∃ l, s.pumpRoute.port.queue = s.port.queue ++ l := by
  unfold State.pumpRoute
  split
  · split
    · exact offer_queue ..
    · exact ⟨[], by simp⟩
  · exact ⟨[], by simp⟩

theorem pumpNotice_queue (s : State) : ∃ l, s.pumpNotice.port.queue = s.port.queue ++ l := by
  unfold State.pumpNotice
  split
  · split
    · exact offer_queue ..
    · exact ⟨[], by simp⟩
  · exact ⟨[], by simp⟩

theorem endEvent_queue (s : State) : ∃ l, s.endEvent.port.queue = s.port.queue ++ l := by
  obtain ⟨l, hl⟩ := pumpRoute_queue s
  obtain ⟨m, hm⟩ := pumpNotice_queue s.pumpRoute
  exact ⟨l ++ m, by rw [State.endEvent, hm, hl, List.append_assoc]⟩

/-- Settles O9: the passage is `clearOffline` by the role of the frame's source, and then the end of an event. -/
theorem passageTouchesOnlyThePort : Obligations.PassageTouchesOnlyThePort := by
  constructor
  · intro s h
    calc s.heard h = { s with
          port := (s.heard h).port, mgmt := (s.heard h).mgmt, dispatch := (s.heard h).dispatch } := by
          unfold State.heard State.clearOffline
          split <;> rfl
      _ = _ := by rw [heard_port, heard_mgmt, heard_dispatch]; rfl
  · intro s f taken
    obtain ⟨l, hl⟩ := endEvent_queue (s.store f taken)
    refine ⟨(s.passOn f taken).dispatch.routeD, l, (s.passOn f taken).port.sources, ?_⟩
    calc s.passOn f taken = (s.store f taken).endEvent := rfl
      _ = _ := by rw [endEvent_eq, hl]; rfl

/-- R134: the address found to hold a role. -/
theorem addrOf_spec {s : State} {r : Role} {addr : Byte} (h : s.addrOf r = some addr) :
    ∃ i : Fin 62, s.roles[i] = r ∧ addr = byteOf (i.val + 1) := by
  unfold State.addrOf at h
  obtain ⟨i, hi, rfl⟩ := Option.map_eq_some_iff.mp h
  exact ⟨i, by simpa using List.find?_some hi, rfl⟩

theorem addrOf_eq_none (s : State) (r : Role) : s.addrOf r = none ↔ ∀ i : Fin 62, s.roles[i] ≠ r := by
  simp [State.addrOf]

/-- R138: the Route Dispatcher in IDLE sends the head entry to a diverter that is ready. -/
theorem pumpRoute_sends {s : State} {e : RouteEntry} {rest : List RouteEntry} {addr : Byte} (hd : s.dispatch.routeD = .idle)
    (hr : s.dispatch.routes = e :: rest) (ha : s.addrOf .diverter = some addr) (ho : s.dispatch.diverterOffline = false)
    (hh : s.dispatch.diverterHeard = true) (hm : s.port.monitor = .up) :
    s.pumpRoute = (s.offer .route addr (.order (.route e.serial e.lane))).updDispatch fun d =>
      { d with routeD := .sending } := by
  have ready : s.diverterReady = true := by simp [State.diverterReady, State.diverterOnline, ha, ho, hh]
  unfold State.pumpRoute
  rw [hd, hr, ha]
  exact if_pos ⟨ready, hm⟩

/-- R138: it keeps still while it is SENDING, has no entry, or has no diverter to send to. -/
theorem pumpRoute_still {s : State} (h : s.dispatch.routeD = .sending ∨ s.dispatch.routes = [] ∨ s.addrOf .diverter = none
    ∨ s.dispatch.diverterOffline = true ∨ s.dispatch.diverterHeard = false ∨ s.port.monitor = .down) : s.pumpRoute = s := by
  unfold State.pumpRoute
  split
  case h_1 e rest addr hd hr ha =>
    rw [if_neg]
    rintro ⟨hready, hm⟩
    simp only [State.diverterReady, State.diverterOnline, Bool.and_eq_true, Bool.not_eq_true'] at hready
    simp_all
  case h_2 => rfl

/-- R185: the notice source, when free, sends the head notice while the ring is UP. -/
theorem pumpNotice_sends {s : State} {x : Notice} {rest : List Notice} (hn : s.mgmt.notices = x :: rest)
    (hm : s.port.monitor = .up) (hc : (s.port.source .notice).cond = .free) :
    s.pumpNotice = s.offer .notice s.mgmt.latched.supervisor (.notice x) := by
  unfold State.pumpNotice
  rw [hn]
  exact if_pos ⟨hm, hc⟩

theorem pumpNotice_still {s : State} (h : s.mgmt.notices = [] ∨ s.port.monitor = .down
    ∨ (s.port.source .notice).cond ≠ .free) : s.pumpNotice = s := by
  unfold State.pumpNotice
  split
  case h_1 x rest hn =>
    rw [if_neg]
    rintro ⟨hm, hc⟩
    simp_all
  case h_2 => rfl

/-- Settles O10: the cases of an offer and of the two turns at the end of an event. -/
theorem offersAndTheEndOfAnEvent : Obligations.OffersAndTheEndOfAnEvent := by
  refine ⟨fun p q => ⟨offer_free, offer_busy_up, offer_busy_down⟩, fun p j k => ⟨rfl, Src.idx_injective j k⟩, fun s =>
    ⟨fun _ _ _ => rfl, fun _ _ => addrOf_spec, addrOf_eq_none s, fun e rest addr => pumpRoute_sends, pumpRoute_still,
      fun x rest => pumpNotice_sends, pumpNotice_still, rfl⟩⟩

/-! ## Frames that arrive (R158, R159) -/

/-- Settles O13: the two cases of a frame's beginning. -/
theorem bytesArriveOnTheInPair : Obligations.BytesArriveOnTheInPair := by
  refine ⟨fun s => rfl, fun s c hc => ?_⟩
  have begins : exec c s = .next s.beginArrival := by
    rcases List.mem_pair.mp hc with rfl | rfl <;> rfl
  rw [begins]
  constructor <;> intro h <;> unfold State.beginArrival
  · rw [if_pos h]; rfl
  · rw [if_neg (by omega)]; rfl

/-- R158: a frame gives up the first place that is arriving. -/
theorem takePlace_arriving {u : List Place} (v : List Place) (h : .arriving ∉ u) :
    takePlace (u ++ .arriving :: v) = some (u ++ v) := by
  have hu : ∀ x ∈ u, ¬ x.isArriving = true := fun x hx => by cases x <;> simp_all [Place.isArriving]
  unfold takePlace
  rw [if_pos (by simp [Place.isArriving]), List.eraseP_append_right _ hu, List.eraseP_cons_of_pos rfl]

/-- R158: a frame with no place of its own needs a free one. -/
theorem takePlace_fresh {u : List Place} (h : .arriving ∉ u) : takePlace u = if u.length < 4 then some u else none := by
  have hu : u.any Place.isArriving = false := by
    rw [List.any_eq_false]
    intro x hx
    cases x <;> simp_all [Place.isArriving]
  unfold takePlace
  rw [hu]; rfl

/-- R159: the state in which a frame that failed its check has been dropped. -/
theorem arrive_failed {s : State} {f : Option Frame} (hp : takePlace s.port.transit ≠ none)
    (hf : (f.all fun f => !f.passes) = true) :
    s.arrive f = (((s.updPort fun p => { p with transit := (takePlace s.port.transit).getD [] }).tally .received).tally
      .checkFailures).active := by
  obtain ⟨places, hpl⟩ := Option.ne_none_iff_exists'.mp hp
  unfold State.arrive
  rw [hpl]
  cases f with
  | none => rfl
  | some f => simp_all [State.checkFailed]

/-- R158: a frame that finds all four places held is lost. -/
theorem arrive_overrun {s : State} (f : Option Frame) (hp : takePlace s.port.transit = none) : s.arrive f = s.overrun := by
  unfold State.arrive; rw [hp]

/-- R159, R193: when a frame passes its check. -/
theorem Frame.passes_iff (f : Frame) : f.passes = true ↔
    f.check = crc (f.dst :: f.src :: (f.kind &&& 0x7F) :: f.seq :: f.len :: f.payload)
      ∧ f.len.toNat = f.payload.length ∧ f.len.toNat ≤ 48 ∧ 1 ≤ f.src.toNat ∧ f.src.toNat ≤ 62 := by
  simp only [Frame.passes, Bool.and_eq_true, decide_eq_true_eq, beq_iff_eq, checkOf, unmarked]
  tauto

/-- R159, R192: what the check of a composed frame asks. -/
theorem composeFrame_passes_iff (dst src kind seq : Byte) (p : List Byte) :
    (composeFrame dst src kind seq p).passes = true ↔ (1 ≤ src.toNat ∧ src.toNat ≤ 62) ∧ p.length ≤ 48 := by
  refine ⟨fun h => ?_, fun h => composeFrame_passes dst src kind seq p h.1 h.2⟩
  obtain ⟨_, hlen, hle, hsrc⟩ := (Frame.passes_iff _).mp h
  exact ⟨hsrc, hlen ▸ hle⟩

/-- R192: the bytes of a frame are read as that frame. -/
theorem parseFrame_bytes (dst src kind seq len : Byte) (p : List Byte) (check : Word16) :
    parseFrame (dst :: src :: kind :: seq :: len :: (p ++ [byteOf (check.toNat / 256), byteOf check.toNat]))
      = some ⟨dst, src, kind, seq, len, p, check⟩ := by
  have at_check (v : List Byte) (i : Nat) : byteAt (dst :: src :: kind :: seq :: len :: (p ++ v)) (p.length + 5 + i)
      = byteAt v i := by
    show byteAt ([dst, src, kind, seq, len] ++ p ++ v) _ = _
    rw [byteAt_append_right _ _ _ (by simp)]
    congr 1; simp
  have hcheck := at_check [byteOf (check.toNat / 256), byteOf check.toNat]
  unfold parseFrame
  simp only [List.length_cons, List.length_append, List.length_nil, word16At, num16At]
  rw [if_neg (by omega), show p.length + (0 + 1 + 1) + 1 + 1 + 1 + 1 + 1 - 2 = p.length + 5 + 0 by omega, hcheck 0, hcheck 1]
  have hpay : List.take (p.length + (0 + 1 + 1) + 1 + 1 + 1 + 1 + 1 - 7)
      (List.drop 5 (dst :: src :: kind :: seq :: len :: (p ++ [byteOf (check.toNat / 256), byteOf check.toNat]))) = p := by
    rw [show p.length + (0 + 1 + 1) + 1 + 1 + 1 + 1 + 1 - 7 = p.length by omega]
    simp
  rw [hpay]
  simp only [byteAt, List.getD_cons_zero, List.getD_cons_succ, word16_roundtrip]

/-- Settles O14: a frame fails its check, is the frame its bytes spell, or finds no place. -/
theorem failedFrameIsDropped : Obligations.FailedFrameIsDropped := by
  constructor
  · intro u v h
    refine ⟨takePlace_arriving v h, fun hl => ?_, fun hl => ?_⟩
    · rw [takePlace_fresh h, if_pos hl]
    · rw [takePlace_fresh h, if_neg (by omega)]
  · intro s bytes p dst seq h k taken
    refine ⟨fun hp => ⟨fun hf => ?_, fun hf => ?_, fun hf => ?_⟩, ?_, fun hp => ⟨?_, ?_, ?_⟩⟩
    · exact congrArg _ (arrive_failed hp hf)
    · refine congrArg _ (arrive_failed hp ?_)
      rw [Option.all_some, Bool.not_eq_true', Bool.eq_false_iff, ne_eq, composeFrame_passes_iff]
      rintro ⟨⟨h1, h62⟩, h48⟩
      rcases hf with h0 | h' | h'
      · rw [h0] at h1; exact absurd h1 (by decide)
      · omega
      · omega
    · refine congrArg _ (arrive_failed hp ?_)
      rw [Option.all_some, Bool.not_eq_true', Bool.eq_false_iff, ne_eq, composeFrame_passes_iff]
      exact fun h => by omega
    · exact congrArg (fun f => Host.Outcome.next (s.arrive f)) (parseFrame_bytes ..)
    all_goals exact congrArg _ (arrive_overrun _ hp)

/-! ## Frames that leave (R158, R164) -/

/-- R158: the place of the frame that has been sent. -/
theorem dropLeaving_append {u : List Place} (v : List Place) (f : Frame) (h : ∀ x ∈ u, ∀ g, x ≠ .leaving g) :
    dropLeaving (u ++ .leaving f :: v) = u ++ v := by
  induction u with
  | nil => rfl
  | cons x u ih =>
    have hu := ih fun y hy => h y (List.mem_cons_of_mem _ hy)
    cases x with
    | leaving g => exact absurd rfl (h _ List.mem_cons_self g)
    | _ => exact congrArg (List.cons _) hu

/-- Settles O17: the cases of the OUT pair. -/
theorem frameLeavesTheOutPair : Obligations.FrameLeavesTheOutPair := by
  intro s
  have sent {p : RingPort} (h : s.port.sent s.clock = p) : exec .frameSent s = .next { s with port := p } := by
    subst h; rfl
  have forwarded {p : RingPort} (h : s.port.forwarded = p) : exec .transitFrameForwarded s = .next { s with port := p } := by
    subst h; rfl
  refine ⟨fun q w h => sent ?_, fun q w h => sent ?_, fun h => sent ?_, fun f h => forwarded ?_, fun h => forwarded ?_,
    fun u v f h => dropLeaving_append v f h⟩
  · unfold RingPort.sent; rw [h]; rfl
  · unfold RingPort.sent; rw [h]
  · unfold RingPort.sent; split
    case h_1 hout => exact absurd hout (h _ _ _)
    case h_2 hout => exact absurd hout (h _ _ _)
    case h_3 => rfl
  · unfold RingPort.forwarded; rw [h]
  · unfold RingPort.forwarded; split
    case h_1 hout => exact absurd hout (h _)
    case h_2 => rfl

/-! ## Frames that nothing acts on (R160, R161, R64) -/

theorem stationAt_spec {s : State} {a : Byte} {i : StationNo} (h : s.stationAt a = some i) :
    a ≠ 0 ∧ (s.station i).cfg.addr = a := by
  unfold State.stationAt at h
  split at h
  · cases h
  · exact ⟨‹_›, by simpa using List.find?_some h⟩

theorem stationAt_eq_none (s : State) (a : Byte) : s.stationAt a = none ↔ a = 0 ∨ ∀ i, (s.station i).cfg.addr ≠ a := by
  unfold State.stationAt
  split <;> simp_all

/-- R180: an address outside 1..62 is no unit's. -/
theorem unitIndex_outside {a : Byte} (h : a = 0 ∨ 62 < a.toNat) : unitIndex a = none := by
  unfold unitIndex
  rw [dif_neg]
  rintro ⟨h1, h62⟩
  rcases h with rfl | h
  · exact absurd h1 (by decide)
  · omega

theorem roleOf_outside (s : State) {a : Byte} (h : a = 0 ∨ 62 < a.toNat) : s.roleOf a = .unassigned := by
  simp [State.roleOf, unitIndex_outside h]

/-- R194: a code and a length that no event has. -/
theorem stationEvent_eq_none {p : List Byte}
    (h : ((byteAt p 0).toNat, p.length) ∉ [(1, 18), (2, 1), (3, 2), (4, 1), (5, 1), (6, 1)]) : stationEvent p = none := by
  unfold stationEvent
  split <;> simp_all

/-- R161: a heard frame of another unit than the part, neither to it. -/
theorem arrive_passing {s : State} {h : Hdr} {p : List Byte} (hs : s.Hears h p) {dst : Byte} (k : BitVec 4)
    (hd : dst ≠ s.mgmt.latched.own) :
    exec (.transitFrame dst h k p) s
      = .next ((s.heard h).passOn (composeFrame dst h.src (kindByte k h.spare h.taken) h.seq p) false) := by
  refine congrArg _ ((arrive_hears hs dst k).trans ?_)
  have hsrc := hs.2.2.2.1
  simp [State.classify, State.passOn, hd, hsrc]

/-- R161: a heard frame to the part, its source no station's, that its source's role gives nothing to act on. -/
theorem roleFrame_ignored {s t : State} {h : Hdr} {k : BitVec 4} {p : List Byte} {r : Role}
    (hr : r = .unassigned ∨ (k ≠ 1 ∧ k ≠ 2 ∧ k ≠ 5) ∨ (k = 1 ∧ (r = .inspection ∨ r = .diverter))
      ∨ (k = 2 ∧ r ≠ .inspection) ∨ (k = 5 ∧ r ≠ .markingPress ∧ r ≠ .scrapCell)) :
    t.roleFrame r (frameTo s h k p) = (t.ignored, true) := by
  have hk : (frameTo s h k p).kindOf = k := by simp [frameTo]
  unfold State.roleFrame
  rw [hk]
  rcases hr with rfl | ⟨h1, h2, h5⟩ | ⟨rfl, rfl | rfl⟩ | ⟨rfl, hr⟩ | ⟨rfl, hp, hc⟩
  · rfl
  · have hkinds : k ≠ Kind.tag ∧ k ≠ Kind.finding ∧ k ≠ Kind.done := ⟨h1, h2, h5⟩
    simp [hkinds]
  · rfl
  · rfl
  · simp [Kind.tag, Kind.finding, hr]
  · cases r <;> first | rfl | contradiction

/-- R64: a heard frame of a station, of a kind that no station sends. -/
theorem arrive_station_other {s : State} {h : Hdr} {k : BitVec 4} {p : List Byte} {i : StationNo}
    (hs : s.HearsStation h p i) (h3 : k ≠ 3) (h4 : k ≠ 4) (h9 : k ≠ 9) :
    s.arrive (some (frameTo s h k p)) = (s.heardFrom h i).ignored.passOn (frameTo s h k p) true := by
  rw [arrive_frameTo hs.1, handle_station k h9 _ (by simpa using hs.2)]
  have hk : (frameTo s h k p).kindOf = k := by simp [frameTo]
  have seen : (if (s.station i).state = .outOfService then s.heard h
      else (s.heard h).updStation i fun st => { st with lastFrame := s.clock }) = s.heardFrom h i := by
    rw [heardFrom_eq]
    split
    case isTrue e => rw [updStation_self]; simp [Station.seen, e]
    case isFalse e => apply updStation_congr; simp [Station.seen, e]
  simp only [State.stationFrame, hk, heard_station, heard_clock, seen]
  have hkinds : k ≠ Kind.sample ∧ k ≠ Kind.stationEvent := ⟨h3, h4⟩
  simp [hkinds]

/-- Settles O11: by the address of a frame's source and by its kind. -/
theorem framesThatNothingActsOn : Obligations.FramesThatNothingActsOn := by
  refine ⟨fun s a i j => ⟨stationAt_spec, stationAt_eq_none s a, ?_, roleOf_outside s⟩, fun s => ?_,
    fun s h k p hs => ⟨fun dst hd => arrive_passing hs k hd, fun hi h9 hr => ?_, fun i hi => ⟨fun hp => ?_, fun hp => ?_,
      fun h3 h4 h9 => congrArg _ (arrive_station_other ⟨hs, hi⟩ h3 h4 h9)⟩⟩⟩
  · simp [State.roleOf, unitIndex_byteOf]
  · and_intros <;> rfl
  · refine congrArg _ ((arrive_frameTo hs k).trans ?_)
    rw [handle_role k h9 p (by simpa using hi), roleFrame_ignored (by simpa using hr)]
  · refine congrArg _ ((arrive_stationEvent ⟨hs, hi⟩).trans ?_)
    rw [stationEvent_eq_none hp]; rfl
  · refine congrArg _ ((arrive_sample ⟨hs, hi⟩).trans ?_)
    rw [show sampleFields p = none from if_neg hp]; rfl

end Sys2Proof.Machine
end


section
/-!
PROOFS. The Ring Monitor going UP (R157, R172), the Return Check (R166 to R168), and the outcomes told to a frame's owner
(R169).
-/

namespace Sys2Proof.Machine

/-! ## An offer's sources (R163) -/

theorem source_offer_ne (p : RingPort) {q : OwnFrame} {k : Src} (h : q.src ≠ k) : (p.offer q).source k = p.source k := by
  unfold RingPort.offer
  split
  · exact source_setSource_ne p h _
  · split
    · exact source_setSource_ne p h _
    · rfl

/-- R163: the source that has offered a frame while the ring is UP. -/
theorem source_offer_self {p : RingPort} (hm : p.monitor = .up) (q : OwnFrame) :
    (p.offer q).source q.src = if (p.source q.src).cond = .free then ⟨.queued, (p.source q.src).slot⟩
      else ⟨(p.source q.src).cond, some q⟩ := by
  split
  case isTrue h => rw [offer_free h]; exact source_setSource_self p _ _
  case isFalse h => rw [offer_busy_up h hm]; exact source_setSource_self p _ _

/-- The end of an event offers frames of the Route Dispatcher and of the notice source alone. -/
theorem endEvent_source (s : State) {k : Src} (hr : k ≠ .route) (hn : k ≠ .notice) :
    s.endEvent.port.source k = s.port.source k := by
  have route : s.pumpRoute.port.source k = s.port.source k := by
    unfold State.pumpRoute
    split
    · split
      · exact source_offer_ne _ hr.symm
      · rfl
    · rfl
  rw [← route, State.endEvent]
  unfold State.pumpNotice
  split
  · split
    · exact source_offer_ne _ hn.symm
    · rfl
  · rfl

/-! ## The stations in RESYNC (R84, R85) -/

/-- The ABORT order of a station. -/
def Station.abortFrame (i : StationNo) (st : Station) : OwnFrame := ⟨.station i, st.cfg.addr, .order .abort, false⟩

/-- R84, R85: the Ring Port after the stations of a list that are in RESYNC have each offered an ABORT. -/
def RingPort.aborts (st : StationNo → Station) (l : List StationNo) (p : RingPort) : RingPort :=
  l.foldl (fun p i => if (st i).state = .resync then p.offer ((st i).abortFrame i) else p) p

/-- The ABORTs change the Ring Port alone. -/
theorem abortResync_eq (s : State) : s.abortResync = { s with port := s.port.aborts s.station (List.finRange 8) } := by
  have fold (l : List StationNo) (t : State) (ht : t.station = s.station) :
      l.foldl (fun s i => if (s.station i).state = .resync then s.orderStation i .abort else s) t
        = { t with port := t.port.aborts s.station l } := by
    induction l generalizing t with
    | nil => rfl
    | cons i l ih =>
      rw [List.foldl_cons, ih, ht]
      · by_cases h : (s.station i).state = .resync <;>
          simp [RingPort.aborts, h, State.orderStation, State.offer, State.updPort, Station.abortFrame, ht]
      · split <;> exact ht
  exact fold _ s rfl

section aborts
variable {st : StationNo → Station} {l : List StationNo} {p : RingPort}

/-- The ABORTs change the Inject Queue and the sources alone. -/
theorem aborts_eq (st : StationNo → Station) (l : List StationNo) (p : RingPort) :
    p.aborts st l = { p with queue := (p.aborts st l).queue, sources := (p.aborts st l).sources } := by
  unfold RingPort.aborts
  induction l generalizing p with
  | nil => rfl
  | cons i l ih =>
    rw [List.foldl_cons, ih]
    split
    · rw [offer_eq]
    · rfl

/-- No other source is touched. -/
theorem source_aborts_ne {k : Src} (h : ∀ i ∈ l, k = .station i → (st i).state ≠ .resync) :
    (p.aborts st l).source k = p.source k := by
  unfold RingPort.aborts
  induction l generalizing p with
  | nil => rfl
  | cons i l ih =>
    rw [List.foldl_cons, ih fun j hj => h j (List.mem_cons_of_mem _ hj)]
    split
    case isTrue hi => exact source_offer_ne p fun e => h i List.mem_cons_self e.symm hi
    case isFalse => rfl

/-- R163: the source of a station in RESYNC, the ring UP. -/
theorem source_aborts_self (hm : p.monitor = .up) (hl : l.Nodup) {i : StationNo} (hi : i ∈ l)
    (hr : (st i).state = .resync) :
    (p.aborts st l).source (.station i) = if (p.source (.station i)).cond = .free then
        ⟨.queued, (p.source (.station i)).slot⟩
      else ⟨(p.source (.station i)).cond, some ((st i).abortFrame i)⟩ := by
  unfold RingPort.aborts
  induction l generalizing p with
  | nil => cases hi
  | cons j l ih =>
    obtain ⟨hj, hl⟩ := List.nodup_cons.mp hl
    rw [List.foldl_cons]
    rcases List.mem_cons.mp hi with rfl | hil
    · rw [if_pos hr]
      refine (source_aborts_ne (l := l) fun j hjl e => ?_).trans (source_offer_self hm ((st i).abortFrame i))
      cases e; exact absurd hjl hj
    · have hne : ((st j).abortFrame j).src ≠ .station i := fun e => hj (by cases e; assumption)
      split
      · rw [ih (by simpa using hm) hl hil, source_offer_ne p hne]
      · exact ih hm hl hil

/-- R84, R85: the ABORTs of the free sources join the Inject Queue in the order of the stations. -/
theorem queue_aborts (hl : l.Nodup) : (p.aborts st l).queue = p.queue ++ l.filterMap fun i =>
    if (st i).state = .resync ∧ (p.source (.station i)).cond = .free then some ((st i).abortFrame i) else none := by
  unfold RingPort.aborts
  induction l generalizing p with
  | nil => simp
  | cons i l ih =>
    obtain ⟨hi, hl⟩ := List.nodup_cons.mp hl
    rw [List.foldl_cons, ih hl, List.filterMap_cons]
    by_cases hr : (st i).state = .resync
    case neg => simp [hr]
    have others (j : StationNo) (hj : j ∈ l) :
        (p.offer ((st i).abortFrame i)).source (.station j) = p.source (.station j) :=
      source_offer_ne p fun e => hi (by cases e; exact hj)
    have rest := List.filterMap_congr (l := l) (f := fun j => if (st j).state = .resync
        ∧ ((p.offer ((st i).abortFrame i)).source (.station j)).cond = .free then some ((st j).abortFrame j) else none)
      fun j hj => by rw [others j hj]
    rw [if_pos hr, rest]
    by_cases hc : (p.source (.station i)).cond = .free
    · rw [offer_free (q := (st i).abortFrame i) hc]
      simp [hr, hc]
    · have same : (p.offer ((st i).abortFrame i)).queue = p.queue := by
        unfold RingPort.offer
        split
        · contradiction
        · split <;> rfl
      simp [same, hc]

end aborts

/-! ## The monitor going UP (R172) -/

/-- The frame that completes its arrival counted, its place given up, the line active. -/
def State.withLine (places : List Place) (c : Clock) (t : Tallies) (s : State) : State :=
  { s with port := { s.port with transit := places, lastActivity := c }, mgmt := { s.mgmt with tallies := t } }

@[simp] theorem withLine_monitor (places : List Place) (c : Clock) (t : Tallies) (s : State) :
    (s.withLine places c t).port.monitor = s.port.monitor := rfl

section withLine
variable (s : State) (places : List Place) (c : Clock) (t : Tallies)

theorem offer_withPlaces (p : RingPort) (q : OwnFrame) : RingPort.offer q { p with transit := places, lastActivity := c }
    = { p.offer q with transit := places, lastActivity := c } := by
  by_cases h : (p.source q.src).cond = .free
  · rw [offer_free h, offer_free (p := { p with transit := places, lastActivity := c }) h]; rfl
  · have hmon : p.monitor = .up ∨ p.monitor = .down := by cases p.monitor <;> simp
    rcases hmon with hm | hm
    · rw [offer_busy_up h hm, offer_busy_up (p := { p with transit := places, lastActivity := c }) h hm]; rfl
    · rw [offer_busy_down h hm, offer_busy_down (p := { p with transit := places, lastActivity := c }) h hm]

theorem offer_withLine (k : Src) (dst : Byte) (b : Body) :
    (s.withLine places c t).offer k dst b = (s.offer k dst b).withLine places c t :=
  congrArg (fun p => { s.withLine places c t with port := p }) (offer_withPlaces places c s.port ⟨k, dst, b, false⟩)

theorem pumpRoute_withLine : (s.withLine places c t).pumpRoute = s.pumpRoute.withLine places c t := by
  unfold State.pumpRoute
  have addr : (s.withLine places c t).addrOf .diverter = s.addrOf .diverter := rfl
  have ready : (s.withLine places c t).diverterReady = s.diverterReady := rfl
  rw [addr, ready, show (s.withLine places c t).dispatch = s.dispatch from rfl]
  split
  · rw [show (s.withLine places c t).port.monitor = s.port.monitor from rfl]
    split
    · rw [offer_withLine]; rfl
    · rfl
  · rfl

theorem pumpNotice_withLine : (s.withLine places c t).pumpNotice = s.pumpNotice.withLine places c t := by
  unfold State.pumpNotice
  rw [show (s.withLine places c t).mgmt.notices = s.mgmt.notices from rfl]
  split
  · rw [show (s.withLine places c t).port.monitor = s.port.monitor from rfl,
      show (s.withLine places c t).port.source = s.port.source from rfl]
    split
    · exact offer_withLine ..
    · rfl
  · rfl

theorem endEvent_withLine : (s.withLine places c t).endEvent = s.endEvent.withLine places c t := by
  rw [State.endEvent, pumpRoute_withLine, pumpNotice_withLine, State.endEvent]

theorem aborts_withPlaces (st : StationNo → Station) (l : List StationNo) (p : RingPort) :
    RingPort.aborts st l { p with transit := places, lastActivity := c }
      = { p.aborts st l with transit := places, lastActivity := c } := by
  unfold RingPort.aborts
  induction l generalizing p with
  | nil => rfl
  | cons i l ih =>
    rw [List.foldl_cons, List.foldl_cons, ← ih]
    congr 1
    split
    · exact offer_withPlaces ..
    · rfl

theorem ringUp_withLine : (s.withLine places c t).ringUp = s.ringUp.withLine places c t := by
  unfold State.ringUp
  rw [← endEvent_withLine, abortResync_eq, abortResync_eq]
  congr 1
  exact congrArg (fun p => { s.withLine places c t with port := p })
    (aborts_withPlaces places c s.station _ { s.port with monitor := .up })

end withLine

/-- R172: the UP leaves everything but the port and the Route Dispatcher's state. -/
theorem ringUp_eq (s : State) : s.ringUp = { s with
    dispatch := { s.dispatch with routeD := s.ringUp.dispatch.routeD }
    port := { s.port with monitor := .up, queue := s.ringUp.port.queue, sources := s.ringUp.port.sources } } := by
  unfold State.ringUp
  rw [endEvent_eq, abortResync_eq, aborts_eq]
  rfl

/-- R172: a valid frame that finds the ring DOWN is handled as if the ring had come UP before it. -/
theorem arrive_down {s : State} {f : Frame} (hd : s.port.monitor = .down) (hp : takePlace s.port.transit ≠ none)
    (hf : f.passes = true) : s.arrive (some f) = s.ringUp.arrive (some f) := by
  obtain ⟨places, hpl⟩ := Option.ne_none_iff_exists'.mp hp
  have hup : s.ringUp.port.monitor = .up := by rw [ringUp_eq]
  have htr : s.ringUp.port.transit = s.port.transit := by rw [ringUp_eq]
  have hmg : s.ringUp.mgmt = s.mgmt := by rw [ringUp_eq]
  have hcl : s.ringUp.clock = s.clock := by rw [ringUp_eq]
  have line (u : State) : ((u.updPort fun p => { p with transit := places }).tally .received).active
      = u.withLine places u.clock (u.mgmt.tallies.add 1 .received) := rfl
  have before : s.arrive (some f) = (((s.withLine places s.clock (s.mgmt.tallies.add 1 .received)).ringUp.clearOffline
      f.src).classify f).endEvent := by
    unfold State.arrive
    simp only [hpl, hf, if_true, State.validFrame, line]
    rw [withLine_monitor, if_pos hd]
  have after : s.ringUp.arrive (some f) = (((s.ringUp.withLine places s.clock (s.mgmt.tallies.add 1 .received)).clearOffline
      f.src).classify f).endEvent := by
    unfold State.arrive
    simp only [htr, hpl, hf, if_true, State.validFrame, line, hmg, hcl]
    rw [withLine_monitor, hup, if_neg (by decide)]
  rw [before, after, ringUp_withLine]

/-- Settles O12: the UP before the frame, and the ABORTs of the stations in RESYNC. -/
theorem validFrameBringsTheRingUp : Obligations.ValidFrameBringsTheRingUp := by
  refine ⟨fun s dst h k p hd hh => ?_, fun s dst seq k taken p hd hp h1 h62 hfit => ?_, fun s => ?_⟩
  · obtain ⟨hp, _, hwf, _, hfit⟩ := hh
    simp only [Hdr.wf, Bool.and_eq_true, decide_eq_true_eq] at hwf
    exact congrArg Host.Outcome.next (arrive_down hd hp ((composeFrame_passes_iff ..).mpr ⟨hwf, by simpa [payloadFits] using hfit⟩))
  · have hmg : s.ringUp.mgmt = s.mgmt := by rw [ringUp_eq]
    have hf := (composeFrame_passes_iff dst s.mgmt.latched.own (kindByte k 0 taken) seq p).mpr
      ⟨⟨h1, h62⟩, by simpa [payloadFits] using hfit⟩
    refine congrArg Host.Outcome.next ((arrive_down hd hp hf).trans ?_)
    rw [hmg]
  · let p := RingPort.aborts s.station (List.finRange 8) { s.port with monitor := .up }
    have hnd := List.nodup_finRange 8
    have up : s.ringUp = State.endEvent { s with port := p } := by
      unfold State.ringUp; rw [abortResync_eq]; rfl
    have self (i : StationNo) (hr : (s.station i).state = .resync) := source_aborts_self (st := s.station)
      (p := { s.port with monitor := .up }) rfl hnd (List.mem_finRange i) hr
    have queue := queue_aborts (st := s.station) (p := { s.port with monitor := .up }) hnd
    refine ⟨by rw [ringUp_eq], ⟨p, up, ?_, self, fun k hk => source_aborts_ne fun i _ => hk i⟩, fun i hr => ⟨fun hc => ?_, fun hc => ?_⟩⟩
    · exact (aborts_eq ..).trans (by rw [queue]; rfl)
    · obtain ⟨l, hl⟩ := endEvent_queue { s with port := p }
      rw [up, hl, List.mem_append]
      left
      show _ ∈ (RingPort.aborts s.station (List.finRange 8) { s.port with monitor := .up }).queue
      rw [queue, List.mem_append]
      right
      rw [List.mem_filterMap]
      exact ⟨i, List.mem_finRange i, if_pos ⟨hr, hc⟩⟩
    · rw [up, endEvent_source _ (by simp) (by simp)]
      show (RingPort.source (RingPort.aborts s.station (List.finRange 8) { s.port with monitor := .up }) _).slot = _
      rw [self i hr]
      exact congrArg SourceState.slot (if_neg hc)

end Sys2Proof.Machine
end


section
/-!
PROOFS. The Return Check (R166 to R168), and the outcomes told to a frame's owner (R169, R80, R138, R139, R149, R151, R155,
R177, R185).
-/

namespace Sys2Proof.Machine

/-! ## The Return Check (R166 to R168) -/

/-- R166: a valid frame of the part's own address that finds the ring UP goes to the Return Check. -/
theorem arrive_own {s : State} {dst seq : Byte} {k : BitVec 4} {taken : Bool} {p : List Byte}
    (hp : takePlace s.port.transit ≠ none) (hm : s.port.monitor = .up) (h1 : 1 ≤ s.mgmt.latched.own.toNat)
    (h62 : s.mgmt.latched.own.toNat ≤ 62) (hfit : payloadFits p = true) :
    s.arrive (some (composeFrame dst s.mgmt.latched.own (kindByte k 0 taken) seq p))
      = ((s.heard ⟨s.mgmt.latched.own, seq, taken, 0⟩).ownReturn
          (composeFrame dst s.mgmt.latched.own (kindByte k 0 taken) seq p)).endEvent := by
  obtain ⟨places, hpl⟩ := Option.ne_none_iff_exists'.mp hp
  have hf := (composeFrame_passes_iff dst s.mgmt.latched.own (kindByte k 0 taken) seq p).mpr
    ⟨⟨h1, h62⟩, by simpa [payloadFits] using hfit⟩
  have hsrc : (composeFrame dst s.mgmt.latched.own (kindByte k 0 taken) seq p).src = s.mgmt.latched.own := rfl
  generalize composeFrame dst s.mgmt.latched.own (kindByte k 0 taken) seq p = f at hf hsrc ⊢
  simp [State.arrive, hpl, hf, State.validFrame, State.heard, State.active, State.tally, State.tallyBy, State.updPort,
    State.updMgmt, hm, State.classify, hsrc]

/-- R167: an ORDER not taken at its first passage is injected again. -/
theorem failedPassage_reinjects {s : State} {x : Flight} (ho : x.frame.body.isOrder = true)
    (hr : x.frame.reinjected = false) : s.failedPassage x = ((s.tally .notTaken).dropFlight x).updPort (·.reinject x.frame) :=
  if_pos ⟨ho, hr⟩

/-- R167: any other frame not taken has its outcome reported. -/
theorem failedPassage_reports {s : State} {x : Flight} (h : x.frame.body.isOrder = false ∨ x.frame.reinjected = true) :
    s.failedPassage x = (s.tally .notTaken).outcome x false := by
  refine if_neg ?_
  rintro ⟨ho, hr⟩
  simp [ho, hr] at h

/-- R166: a frame of the part's own that is not in flight. -/
theorem ownReturn_stray {s : State} {f : Frame} (h : s.port.flights.find? (·.matchedBy f) = none) :
    s.ownReturn f = s.ignored := by
  unfold State.ownReturn; rw [h]

/-- R166, R167: the return of a frame in flight. -/
theorem ownReturn_flight {s : State} {f : Frame} {x : Flight} (h : s.port.flights.find? (·.matchedBy f) = some x) :
    s.ownReturn f = if f.taken then s.outcome x true else s.failedPassage x := by
  unfold State.ownReturn; rw [h]

/-- R168: a return deadline of no frame in flight. -/
theorem returnExpiry_none {s : State} {seq : Byte} (h : s.port.flights.find? (fun x => x.seq == seq) = none) :
    s.returnExpiry seq = s := by
  unfold State.returnExpiry; rw [h]

/-- R168: the return deadline of a frame in flight. -/
theorem returnExpiry_flight {s : State} {seq : Byte} {x : Flight}
    (h : s.port.flights.find? (fun x => x.seq == seq) = some x) :
    s.returnExpiry seq = if (s.clock - x.deadline).toNat < 2147483648 then s.failedPassage x else s := by
  unfold State.returnExpiry; rw [h]; simp [reached]

/-- Settles O18: by the frame found in flight. -/
theorem ownFrameReturnsOrNot : Obligations.OwnFrameReturnsOrNot := by
  refine ⟨fun o r n => ⟨rfl, rfl, rfl⟩, fun s => ⟨fun dst seq k taken p hp hm h1 h62 hfit => ?_, fun seq => ?_⟩⟩
  · let f := composeFrame dst s.mgmt.latched.own (kindByte k 0 taken) seq p
    let s1 := s.heard ⟨s.mgmt.latched.own, seq, taken, 0⟩
    have returns {t : State} (h : s1.ownReturn f = t) : exec (.ownFrameReturn dst k seq taken p) s = .next t.endEvent := by
      subst h; exact congrArg Host.Outcome.next (arrive_own hp hm h1 h62 hfit)
    have matched : (fun x : Flight => x.matchedBy f)
        = fun x => x.seq == seq && x.frame.body.kind == k && x.frame.dst == dst := by
      funext x
      simp only [Flight.matchedBy, f, composeFrame_kindOf]
      rfl
    have flights : s1.port.flights.find? (·.matchedBy f)
        = s.port.flights.find? fun x => x.seq == seq && x.frame.body.kind == k && x.frame.dst == dst := by
      rw [matched, show s1.port.flights = s.port.flights by simp [s1]]
    have ft : f.taken = taken := composeFrame_taken ..
    refine ⟨fun h => returns (ownReturn_stray (flights.trans h)), fun x h => ⟨fun ht => returns ?_, fun ht =>
      ⟨fun ho hr => returns ?_, fun hn => returns ?_⟩⟩⟩ <;> rw [ownReturn_flight (flights.trans h), ft, ht]
    · rfl
    · exact failedPassage_reinjects ho hr
    · exact failedPassage_reports hn
  · have expires {t : State} (h : s.returnExpiry seq = t) : exec (.returnDeadline seq) s = .next t.endEvent := by
      subst h; rfl
    refine ⟨fun h => expires (returnExpiry_none h), fun x h => ⟨fun hl => expires ?_, fun hl => ⟨fun ho hr => expires ?_,
      fun hn => expires ?_⟩⟩⟩ <;> rw [returnExpiry_flight h]
    · exact if_neg hl
    · rw [if_pos hl]; exact failedPassage_reinjects ho hr
    · rw [if_pos hl]; exact failedPassage_reports hn

/-! ## The owners' reports (R169) -/

/-- R73: where no test is in progress nothing ends. -/
theorem endTest_none {s : State} {i : StationNo} (why : Reason) (h : (s.station i).record = none) : s.endTest i why = s := by
  have unlinked : s.unlink i = s := updStation_self s i _ (by rw [← h])
  unfold State.endTest
  split
  · rw [h]
  · simp [State.concludeTest, State.testRec, h, unlinked]

theorem inCycle_watched {st : StState} (h : st.inCycle = true) : st.watched = true := by
  cases st <;> first | rfl | exact h

/-- R80: a station not reached. -/
theorem stationUnreachable_watched {s : State} {i : StationNo} {b : Body} (hb : b ≠ .order .abort)
    (hw : (s.station i).state.watched = true) :
    s.stationUnreachable i b = ((s.endTest i .silent).updStation i Station.faulted).offer (.station i) (s.station i).cfg.addr
      (.order .abort) := by
  unfold State.stationUnreachable
  rw [if_neg hb, if_pos hw, State.orderStation]
  congr 1
  simp [State.enterFaulted, station_endTest, Station.faulted]

theorem stationUnreachable_unwatched {s : State} {i : StationNo} {b : Body} (h : b = .order .abort
    ∨ (s.station i).state.watched = false) : s.stationUnreachable i b = s := by
  unfold State.stationUnreachable
  split
  · rfl
  · rw [if_neg (by simp_all)]

/-- R28: a record that is held. -/
theorem holdRec_some {s : State} {n : RecNo} {r : Record} (h : s.getRec n = some r) (why : HoldReason) :
    s.holdRec n why = s.putRec n (some { r with state := .hold, holdReason := some why }) := modRec_some h _

/-- R139: a lane order that goes unconfirmed with no record still the same and pending. -/
theorem unrouted_gone {s : State} {e : RouteEntry} {n : RecNo} {seq : BitVec 32} (he : e.record = some (n, seq))
    (h : ∀ r, s.getRec n = some r → r.openSeq ≠ seq ∨ (r.state ≠ .markPending ∧ r.state ≠ .scrapPending)) :
    s.unrouted e = s := by
  unfold State.unrouted
  rw [he]
  dsimp only
  split
  · rfl
  case h_2 r hr =>
    split
    case isFalse => rfl
    case isTrue hq =>
      obtain ⟨hm, hs⟩ := (h r hr).resolve_left (not_not.mpr hq)
      rw [if_neg hm, if_neg hs]

/-- R139: the record of a failed ROUTE order, still pending on an actuator's list, is held. -/
theorem unrouted_pending {s : State} {e : RouteEntry} {n : RecNo} {r : Record} (he : e.record = some (n, r.openSeq))
    (hr : s.getRec n = some r) (a : Actuator) (hst : r.state = a.pendingState) :
    s.unrouted e = (s.dropFromList a n).putRec n (some { r with state := .hold, holdReason := some .routeUnconfirmed }) := by
  have held := holdRec_some (s := s.dropFromList a n) (n := n) hr .routeUnconfirmed
  unfold State.unrouted
  rw [he]
  dsimp only
  rw [hr]
  cases a <;> simp only [Actuator.pendingState] at hst <;> simp [hst, held]

theorem routeReport_stale {s : State} (taken : Bool) (h : s.dispatch.routeStale = true) :
    s.routeReport taken = s.updDispatch fun d => { d with routeStale := false } := if_pos h

theorem routeReport_idle {s : State} (taken : Bool) (h : s.dispatch.routeStale = false) (hd : s.dispatch.routeD = .idle) :
    s.routeReport taken = s := by
  unfold State.routeReport; rw [if_neg (by simp [h]), hd]

/-- R138, R139: the report of the ROUTE order of the head entry. -/
theorem routeReport_sending {s : State} {e : RouteEntry} {rest : List RouteEntry} (taken : Bool)
    (h : s.dispatch.routeStale = false) (hd : s.dispatch.routeD = .sending) (hr : s.dispatch.routes = e :: rest) :
    s.routeReport taken = if taken then s.popRoute
      else ((s.updDispatch fun d => { d with diverterOffline := true }).unrouted e).popRoute := by
  unfold State.routeReport; rw [if_neg (by simp [h]), hd, hr]

theorem report_act (s : State) (a : Actuator) (dst : Byte) (o : Order) (j taken : Bool) :
    s.report ⟨a.src, dst, .order o, j⟩ taken = s.actReport a o taken := by cases a <;> rfl

theorem actReport_stale {s : State} {a : Actuator} (o : Order) (taken : Bool) (h : s.dispatch.stale a = true) :
    s.actReport a o taken = s.updDispatch (·.setStale a false) := if_pos h

/-- R151: the report to a dispatcher with an order in flight. -/
theorem actReport_acting {s : State} {a : Actuator} {c : InFlight} (o : Order) (taken : Bool)
    (h : s.dispatch.stale a = false) (hd : s.dispatch.disp a = .acting c) :
    s.actReport a o taken = if taken = false ∧ o.actsFor a c = true then s.unconfirmed a c else s := by
  unfold State.actReport; rw [if_neg (by simp [h]), hd]

/-- R149: the report to a dispatcher that waits for its REFUSE. -/
theorem actReport_refusing {s : State} {a : Actuator} {sr : List Byte} (o : Order) (taken : Bool)
    (h : s.dispatch.stale a = false) (hd : s.dispatch.disp a = .refusing sr) :
    s.actReport a o taken = if o.isRefuse then (if taken then s else s.setOffline a true).setDisp a .idle else s := by
  unfold State.actReport; rw [if_neg (by simp [h]), hd]

theorem actReport_idle {s : State} {a : Actuator} (o : Order) (taken : Bool) (h : s.dispatch.stale a = false)
    (hd : s.dispatch.disp a = .idle) : s.actReport a o taken = s := by
  unfold State.actReport; rw [if_neg (by simp [h]), hd]

/-- R151: the order of the record in flight. -/
theorem actsFor_iff (o : Order) (a : Actuator) (c : InFlight) : o.actsFor a c = true ↔ match a with
    | .press => ∃ m month yy, o = .stamp c.serial m month yy
    | .scrapCell => ∃ why, o = .condemn c.serial why := by
  cases a <;> cases o <;> simp [Order.actsFor]

theorem isRefuse_eq_false {o : Order} (h : ∀ field, o ≠ .refuse field) : o.isRefuse = false := by
  cases o with
  | refuse field => exact absurd rfl (h field)
  | _ => rfl

/-- R151: the record in flight held, the actuator offline. -/
theorem unconfirmed_eq {s : State} {c : InFlight} {r : Record} (a : Actuator) (h : s.getRec c.record = some r) :
    s.unconfirmed a c = { s.putRec c.record (some { r with state := .hold, holdReason := some a.unconfirmedReason }) with
      dispatch := (s.dispatch.setOffline a true).setDisp a .idle } := by
  unfold State.unconfirmed; rw [holdRec_some h]; rfl

/-- Settles O19: each owner's report, by the state it waits in. -/
theorem outcomeIsReported : Obligations.OutcomeIsReported := by
  intro s x taken
  refine ⟨?outcome, fun i dst b j => rfl, fun i dst j => stationUnreachable_unwatched (s := s) (i := i) (.inl rfl),
    fun i dst b j hb =>
      ⟨fun hw hr => ?vacant, fun hc n r ht => stationUnreachable_watched hb (inCycle_watched hc)⟩,
    fun i dst b j hb hw => stationUnreachable_unwatched (.inr hw), fun dst b j h => routeReport_stale taken h,
    fun dst b j e rest hs hd hr => ?route, fun dst b j hs hd => routeReport_idle taken hs hd,
    fun a dst o j hs => ?act, fun a dst o j sr hs hd ho => ?other, fun dst o j h => actReport_stale (a := .press) o taken h,
    fun dst o j h => actReport_stale (a := .scrapCell) o taken h, fun dst field j sr hs hd => ?mark,
    fun dst field j sr hs hd => ?scrap, fun dst b j h => if_pos h, fun dst b j h => if_neg h, fun dst b j => rfl⟩
  case outcome =>
    unfold State.outcome State.dropFlight
    dsimp only
    congr 1
    cases hslot : (s.port.source x.frame.src).slot with
    | none => simp [State.updPort, RingPort.advance, RingPort.setSource, RingPort.source] at hslot ⊢; simp [hslot]
    | some q => simp [State.updPort, RingPort.advance, RingPort.setSource, RingPort.source] at hslot ⊢; simp [hslot]
  case vacant =>
    refine (stationUnreachable_watched hb hw).trans ?_
    rw [endTest_none _ hr]; rfl
  case route =>
    let u : State := s.updDispatch fun d => { d with diverterOffline := true }
    have report (t : Bool) : s.report ⟨.route, dst, b, j⟩ t = if t then s.popRoute else (u.unrouted e).popRoute :=
      routeReport_sending t hs hd hr
    refine ⟨(report true).trans (by simp [State.popRoute, State.updDispatch, hr]), fun he => (report false).trans ?_,
      fun n seq he => ⟨fun h => (report false).trans ?_, fun r hg hq => ⟨fun hst => (report false).trans ?_,
        fun hst => (report false).trans ?_⟩⟩⟩
    · rw [if_neg (by decide), State.unrouted, he]; simp [u, State.popRoute, State.updDispatch, hr]
    · rw [if_neg (by decide), unrouted_gone (s := u) he h]; simp [u, State.popRoute, State.updDispatch, hr]
    · subst hq
      rw [if_neg (by decide), unrouted_pending (s := u) he hg .press hst]
      simp [u, State.popRoute, State.updDispatch, State.dropFromList, State.setList, State.putRec, State.updRecords,
        DispatchUnit.setList, DispatchUnit.list, hr]
    · subst hq
      rw [if_neg (by decide), unrouted_pending (s := u) he hg .scrapCell hst]
      simp [u, State.popRoute, State.updDispatch, State.dropFromList, State.setList, State.putRec, State.updRecords,
        DispatchUnit.setList, DispatchUnit.list, hr]
  case act =>
    refine ⟨fun hd => (report_act ..).trans (actReport_idle o taken hs hd), fun c r hd hg => ⟨fun hacts => ?_, fun hacts => ?_,
      ?_⟩⟩ <;> rw [report_act, actReport_acting o _ hs hd]
    · rw [if_pos ⟨rfl, (actsFor_iff o a c).mpr hacts⟩, unconfirmed_eq a hg]
    · exact if_neg fun h => hacts ((actsFor_iff o a c).mp h.2)
    · exact if_neg nofun
  case other =>
    rw [report_act, actReport_refusing o taken hs hd, isRefuse_eq_false ho]; rfl
  case mark =>
    refine (actReport_refusing (a := .press) _ taken hs hd).trans ?_
    cases taken <;> simp [Order.isRefuse, State.setOffline, State.setDisp, State.updDispatch, DispatchUnit.setOffline,
      DispatchUnit.setDisp]
  case scrap =>
    refine (actReport_refusing (a := .scrapCell) _ taken hs hd).trans ?_
    cases taken <;> simp [Order.isRefuse, State.setOffline, State.setDisp, State.updDispatch, DispatchUnit.setOffline,
      DispatchUnit.setDisp]

end Sys2Proof.Machine
end


section
/-!
PROOFS. The frame check (R193), the Transmit Arbiter's table (R165), and the layouts of the part's own frames (R195 to R197).
-/

namespace Sys2Proof.Machine

/-! ## The frame check (R193) -/

theorem xor_cancel {a b c : Word16} (h : a ^^^ c = b ^^^ c) : a = b := by
  simpa [BitVec.xor_assoc] using congrArg (· ^^^ c) h

/-- R193: a step of the remainder loses nothing: the bit shifted out comes back as bit 0 of the divisor. -/
theorem crcBit_injective : Function.Injective crcBit := by
  intro a b h
  have top : a.getLsbD 15 = b.getLsbD 15 := by
    have low (r : Word16) : (crcBit r).getLsbD 0 = r.getLsbD 15 := by
      unfold crcBit; split <;> simp_all
    rw [← low, ← low, h]
  have shifted : a <<< 1 = b <<< 1 := by
    unfold crcBit at h
    rw [top] at h
    split at h
    · exact xor_cancel h
    · exact h
  refine BitVec.eq_of_getLsbD_eq fun i hi => ?_
  rcases Nat.lt_or_ge i 15 with hlt | hge
  · have up (r : Word16) : (r <<< 1).getLsbD (i + 1) = r.getLsbD i := by
      simp [show i + 1 < 16 by omega, BitVec.getLsbD_eq_getElem hi]
    rw [← up, ← up, shifted]
  · rw [show i = 15 by omega]; exact top

theorem crcBits_injective (k : Nat) : Function.Injective (crcBits k) := by
  induction k with
  | zero => exact Function.injective_id
  | succ k ih => exact ih.comp crcBit_injective

/-- R193: different registers give different remainders after the same byte. -/
theorem crcByte_register_injective (b : Byte) : Function.Injective (crcByte · b) := fun _ _ h =>
  xor_cancel (crcBits_injective 8 h)

/-- R193: different bytes give different remainders from the same register. -/
theorem crcByte_injective (r : Word16) : Function.Injective (crcByte r) := by
  intro a b h
  have same : a.setWidth 16 <<< 8 ^^^ r = b.setWidth 16 <<< 8 ^^^ r := by
    rw [BitVec.xor_comm, BitVec.xor_comm _ r]; exact crcBits_injective 8 h
  have h := congrArg BitVec.toNat (xor_cancel same)
  simp [Nat.shiftLeft_eq] at h
  exact BitVec.eq_of_toNat_eq (by omega)

theorem foldl_crcByte_injective (l : List Byte) : Function.Injective fun r => l.foldl crcByte r := by
  induction l with
  | nil => exact Function.injective_id
  | cons b l ih => exact ih.comp (crcByte_register_injective b)

/-- R193: one changed byte changes the check. -/
theorem crc_set_ne {l : List Byte} {i : Nat} {b : Byte} (hi : i < l.length) (h : b ≠ l[i]) : crc (l.set i b) ≠ crc l := by
  intro e
  have split : l = l.take i ++ l[i] :: l.drop (i + 1) := by simp
  rw [List.set_eq_take_append_cons_drop, if_pos hi] at e
  conv at e => rhs; rw [split]
  simp only [crc, List.foldl_append, List.foldl_cons] at e
  exact h (crcByte_injective _ (foldl_crcByte_injective _ e))

/-- The bytes that a frame's check covers. -/
def Frame.covered (f : Frame) : List Byte := f.dst :: f.src :: (f.kind &&& 0x7F) :: f.seq :: f.len :: f.payload

theorem Frame.passes_covered {f : Frame} (h : f.passes = true) : f.check = crc f.covered := ((Frame.passes_iff f).mp h).1

/-- R159, R193: a frame with the check of a valid one and one covered byte changed fails its check. -/
theorem Frame.fails_of_set {f g : Frame} (hf : f.passes = true) (hc : g.check = f.check) {i : Nat} {b : Byte}
    (hi : i < f.covered.length) (hb : b ≠ f.covered[i]) (hg : g.covered = f.covered.set i b) : g.passes = false := by
  rw [Bool.eq_false_iff]
  intro h
  refine crc_set_ne hi hb ?_
  rw [← hg, ← Frame.passes_covered h, hc, Frame.passes_covered hf]

theorem Frame.passes_of_covered {f g : Frame} (hf : f.passes = true) (hc : g.check = f.check) (hcov : g.covered = f.covered) :
    g.passes = true := by
  obtain ⟨h1, h2, h3, h4, h5⟩ := (Frame.passes_iff f).mp hf
  simp only [Frame.covered, List.cons.injEq] at hcov
  obtain ⟨hd, hs, hk, hq, hl, hp⟩ := hcov
  rw [Frame.passes_iff, hc, hd, hs, hk, hq, hl, hp]
  exact ⟨h1, h2, h3, h4, h5⟩

theorem kindByte_toNat (k : BitVec 4) (spare : BitVec 3) (taken : Bool) :
    (kindByte k spare taken).toNat = k.toNat + 16 * spare.toNat + (if taken then 128 else 0) := by
  revert k spare taken; decide

theorem taken_outside_check (k : Byte) : (k ^^^ 0x80) &&& 0x7F = k &&& 0x7F := by revert k; decide

/-- Settles O15: the remainder is injective in every byte it covers. -/
theorem oneChangedByteFailsTheCheck : Obligations.OneChangedByteFailsTheCheck := by
  refine ⟨Frame.passes_iff, rfl, fun l b => ?_, fun dst src seq k spare taken p => ⟨kindByte_toNat k spare taken, rfl,
    fun h1 h62 h48 => composeFrame_passes _ _ _ _ _ ⟨h1, h62⟩ h48⟩, fun f hf => ⟨fun b hb => ?_, fun b hb => ?_,
    fun b hb => ?_, fun b hb => ?_, fun b hb => ?_, fun w hw => ?_, fun i b hi hb => ?_, ?_⟩⟩
  · rw [crc, List.foldl_append]; rfl
  · exact Frame.fails_of_set (i := 0) hf rfl (by simp [Frame.covered]) hb rfl
  · exact Frame.fails_of_set (i := 1) hf rfl (by simp [Frame.covered]) hb rfl
  · exact Frame.fails_of_set (i := 3) hf rfl (by simp [Frame.covered]) hb rfl
  · exact Frame.fails_of_set (i := 2) hf rfl (by simp [Frame.covered]) hb rfl
  · exact Frame.fails_of_set (i := 4) hf rfl (by simp [Frame.covered]) hb rfl
  · rw [Bool.eq_false_iff]
    intro h
    exact hw ((Frame.passes_covered h).trans (Frame.passes_covered hf).symm)
  · refine Frame.fails_of_set (i := i + 5) (b := b) hf rfl (by simpa [Frame.covered] using hi) ?_ rfl
    simpa [Frame.covered, byteAt, hi] using hb
  · refine Frame.passes_of_covered hf rfl ?_
    simp only [Frame.covered, taken_outside_check]

/-! ## The Transmit Arbiter (R165) -/

/-- R165: the oldest stored frame is ready, and its place is then being sent. -/
theorem storedFrame_append {u : List Place} (v : List Place) (f : Frame) (h : ∀ x ∈ u, ∀ g, x ≠ .stored g) :
    storedFrame u = none ∧ storedFrame (u ++ .stored f :: v) = some f
      ∧ markLeaving (u ++ .stored f :: v) = u ++ .leaving f :: v := by
  induction u with
  | nil => exact ⟨rfl, rfl, rfl⟩
  | cons x u ih =>
    obtain ⟨h1, h2, h3⟩ := ih fun y hy => h y (List.mem_cons_of_mem _ hy)
    cases x with
    | stored g => exact absurd rfl (h _ List.mem_cons_self g)
    | _ => exact ⟨h1, h2, congrArg (List.cons _) h3⟩

/-- R165: a pair that is free is given by the table, another is not given. -/
theorem arbitrate_idle {s : State} (h : s.port.out = .idle) :
    s.arbitrate = { s with port := s.port.arbitrate s.mgmt.latched.own } := by
  unfold State.arbitrate; rw [h]; rfl

theorem arbitrate_held {s : State} (h : s.port.out ≠ .idle) : s.arbitrate = s := by
  unfold State.arbitrate
  split
  · contradiction
  · rfl

/-- R165: the head of the Inject Queue is sent when no transit frame is ready or four have gone before it. -/
theorem arbitrate_own {p : RingPort} {own : Byte} {q : OwnFrame} {rest : List OwnFrame} (hq : p.queue = q :: rest)
    (h : storedFrame p.transit = none ∨ 4 ≤ p.row) : p.arbitrate own = p.sendOwn own q rest := by
  unfold RingPort.arbitrate
  rw [hq]
  cases hs : storedFrame p.transit with
  | none => rfl
  | some f => exact if_neg (by simpa [hs] using h)

/-- R165: a transit frame that is ready goes first while fewer than four have gone before an own frame. -/
theorem arbitrate_transit {p : RingPort} (own : Byte) {f : Frame} (hf : storedFrame p.transit = some f) :
    (p.queue = [] → p.arbitrate own = p.sendTransit f 0)
      ∧ ∀ q rest, p.queue = q :: rest → p.row < 4 → p.arbitrate own = p.sendTransit f (p.row + 1) := by
  unfold RingPort.arbitrate
  refine ⟨fun hq => ?_, fun q rest hq hr => ?_⟩ <;> rw [hf, hq]
  exact if_pos hr

theorem arbitrate_nothing {p : RingPort} (own : Byte) (hf : storedFrame p.transit = none) (hq : p.queue = []) :
    p.arbitrate own = { p with row := 0 } := by
  unfold RingPort.arbitrate; split <;> simp_all

/-! ## The layouts of own frames (R191, R195, R197) -/

theorem beBytes_three (n : Nat) : beBytes 3 n = byteOf (n / 65536) :: beBytes 2 n := rfl

theorem beBytes_four (n : Nat) : beBytes 4 n = beBytes 2 (n / 65536) ++ beBytes 2 n := by
  have high : n / 65536 / 256 = n / 16777216 := Nat.div_div_eq_div_mul ..
  simp [beBytes, high]

theorem byteOf_congr {m n : Nat} (h : m % 256 = n % 256) : byteOf m = byteOf n :=
  BitVec.eq_of_toNat_eq (by simpa [byteOf] using h)

/-- R191: a number is sent by its lowest 24 bits. -/
theorem beBytes_three_mod (n : Nat) : beBytes 3 (n % 16777216) = beBytes 3 n := by
  have high : byteOf (n % 16777216 / 65536) = byteOf (n / 65536) := byteOf_congr (by omega)
  have mid : byteOf (n % 16777216 / 256) = byteOf (n / 256) := byteOf_congr (by omega)
  have low : byteOf (n % 16777216) = byteOf n := byteOf_congr (by omega)
  rw [beBytes_three, beBytes_three, beBytes_two, beBytes_two, high, mid, low]

/-- R191: a signed number of 3 bytes. -/
theorem signed24_eq (z : Int) : signed24 z = byteOf ((z % 16777216).toNat / 65536)
    :: [byteOf ((z % 16777216).toNat / 256), byteOf (z % 16777216).toNat] := by
  rw [← beBytes_two, ← beBytes_three]
  simp [signed24, BitVec.toNat_ofInt]

theorem beBytes_three_signed (n : Nat) : beBytes 3 n = signed24 n := by
  have low : ((n : Int) % 16777216).toNat = n % 16777216 := by omega
  rw [signed24_eq, low, ← beBytes_two, ← beBytes_three, beBytes_three_mod]

theorem flagByte_one (b : Bool) : flagByte b = if b then 1 else 0 := rfl
theorem flagByte_two (b : Bool) : 2 * flagByte b = if b then 2 else 0 := by cases b <;> rfl
theorem flagByte_four (b : Bool) : 4 * flagByte b = if b then 4 else 0 := by cases b <;> rfl
theorem flagByte_eight (b : Bool) : 8 * flagByte b = if b then 8 else 0 := by cases b <;> rfl

/-- R191: a malformed serial field is echoed with its length cut and its characters as received. -/
theorem echoField_malformed {field : List Byte} (hl : field.length = 17) (h : serialOf field = none) :
    echoField field = byteOf (min (byteAt field 0).toNat 16) :: field.drop 1 := by
  simp [echoField, h, hl]

/-- Settles O16: the arbiter's choice by what is ready, and each layout unfolded. -/
theorem arbiterByTheTable : Obligations.ArbiterByTheTable := by
  refine ⟨rfl, fun n => ⟨beBytes_two n, beBytes_three n, beBytes_four n⟩, fun s => ⟨fun h => congrArg _ (arbitrate_held h),
    fun h => ?_, fun u v hu => ⟨(storedFrame_append v ⟨0, 0, 0, 0, 0, [], 0⟩ hu).1, fun f => (storedFrame_append v f hu).2⟩, ?_⟩⟩
  · have arbitrates {p : RingPort} (hp : s.port.arbitrate s.mgmt.latched.own = p) :
        exec .transmitArbitration s = .next { s with port := p } := by
      subst hp; exact congrArg _ (arbitrate_idle h)
    exact ⟨fun f hf hq => arbitrates ((arbitrate_transit _ hf).1 hq),
      fun f q rest hf hq hr => arbitrates ((arbitrate_transit _ hf).2 q rest hq hr),
      fun q rest hq hr => arbitrates (arbitrate_own hq hr), fun hf hq => arbitrates (arbitrate_nothing _ hf hq)⟩
  · intro sr field k x n m why v ov entered hold t tag code st l
    have kinds : ∀ v : Verdict, verdictBytes (some v) = match v with
      | .pass => [1, 0]
      | .condemn why => [2, why.code]
      | .retest why => [3, why.code]
      | .hold why => [4, why.code] := by rintro (_ | _ | _ | _) <;> rfl
    refine ⟨rfl, ?_, rfl, rfl, rfl, rfl, rfl, ?_, fun i hi => ⟨?_, ?_, ?_⟩, rfl, rfl, echoField_malformed, fun hg hs => ?_⟩
    · simp [Body.payload, Order.payload, beBytes_two]
    · simp [Body.payload, Order.payload, serialField, Lane.code]
    · subst hi
      simp only [Body.payload, Notice.payload, kinds, figureBytes]
      cases hold <;> rfl
    · subst hi
      obtain ⟨_, _, _, _, _, pressures, _, _, expansion⟩ := t
      simp only [Body.payload, Notice.payload, kinds, figureBytes, ClampFlags.code, flagByte_two, flagByte_four,
        flagByte_eight, permOf, beBytes_three_signed, signed24_eq, beBytes_two]
      simp only [flagByte_one]
      rcases expansion with _ | ⟨_, _, _ | _⟩ <;> cases pressures <;> cases hold <;> simp only [pressureBytes, beBytes_two] <;> rfl
    · subst hi
      rcases ov with _ | _ | _ | _ | _ <;> simp [Body.payload, Notice.payload, serialField, ListId.code, verdictBytes,
        Verdict.kindCode, reasonCode, Verdict.reason]
    · simp [echoField, hs, serialField]

end Sys2Proof.Machine
end


section
/-!
PROOFS. The Type Bank Unit (R3, R4, R6 to R8, R12, R16, R17), and the admission of a request (R176).
-/

namespace Sys2Proof.Machine

/-! ## Type resolution (R3, R4) -/

/-- The first index that a test finds, in ascending order. -/
theorem find_finRange_eq_some {n : Nat} {p : Fin n → Bool} {i : Fin n} :
    (List.finRange n).find? p = some i ↔ p i = true ∧ ∀ j, j < i → p j = false := by
  rw [List.find?_eq_some_iff_getElem]
  simp only [List.length_finRange, List.getElem_finRange, Fin.cast_mk, Bool.not_eq_true']
  refine and_congr_right fun _ => ⟨?_, fun h => ⟨i.val, i.isLt, rfl, fun j hj => h _ hj⟩⟩
  rintro ⟨m, hm, rfl, h⟩ j hj
  exact h j.val hj

/-- Settles O24: the entry that `find?` stops at. -/
theorem firstMatchingEntryDecidesTheType : Obligations.FirstMatchingEntryDecidesTheType := by
  intro b maker model c hit
  have hits (i : Fin 64) : (b.matchTable[i].valid && b.matchTable[i].hits maker model) = true ↔ hit i := by
    simp [hit, MatchEntry.hits]
  have first (i : Fin 64) : b.firstMatch maker model = some i ↔ hit i ∧ ∀ j, j < i → ¬ hit j := by
    unfold Bank.firstMatch
    rw [find_finRange_eq_some]
    simp only [hits, Bool.eq_false_iff, ne_eq]
  unfold Bank.resolve
  constructor
  · split
    case h_1 i hi =>
      obtain ⟨h1, h2⟩ := (first i).mp hi
      split
      case isTrue hv => rintro ⟨⟩; exact ⟨i, h1, h2, rfl, hv⟩
      case isFalse => nofun
    case h_2 => nofun
  · rintro ⟨i, h1, h2, rfl, hv⟩
    rw [(first i).mpr ⟨h1, h2⟩]
    exact if_pos hv

/-! ## The clamp indication (R8, R197) -/

theorem clampBit_eq (k offered stored : Nat) : clampBit k offered stored = 2 ^ k * (decide (offered ≠ stored)).toNat := by
  unfold clampBit
  by_cases h : offered = stored <;> simp [h]

/-- Settles O26: the indication is the number whose bits tell the changed fields. -/
theorem clampIndicationNamesTheChangedFields : Obligations.ClampIndicationNamesTheChangedFields := by
  intro o e j fields
  let changed (j : Nat) : Bool := decide ((fields o).getD j 0 ≠ (fields e).getD j 0)
  have bits : clampIndication o e = Nat.ofBits fun i : Fin 15 => changed i := by
    simp only [clampIndication, clampBit_eq, Nat.ofBits, Fin.foldr_succ, Fin.foldr_zero, changed, fields, Fin.val_succ,
      Fin.val_zero, List.getD_cons_zero, List.getD_cons_succ]
    simp
    omega
  rw [bits]
  rcases Nat.lt_or_ge j 15 with hj | hj
  · rw [Nat.testBit_ofBits_lt _ _ hj]
  · rw [Nat.testBit_ofBits_ge _ _ hj]
    have beyond (x : TypeEntry) : (fields x).getD j 0 = 0 := List.getD_eq_default _ _ (by simpa [fields] using hj)
    rw [beyond, beyond]; rfl

/-! ## A request served -/

section served
variable {s t : State} {h : Hdr} {tag code : Byte} {args results : List Byte} (hs : s.Serves h (tag :: code :: args))
  (n : Nat) (hn : argLength code = some n) (hl : args.length = n) (hc : code.toNat ≠ 21)
include hs hn hl hc

/-- R176: a request that is carried out. -/
theorem serves_done (ha : serve code args (s.heard h) = doneWith results t) :
    Host.Outcome.next (s.arrive (some (frameTo s h Kind.request (tag :: code :: args))))
      = (.next (s.served h tag code args .done results t) : Effect) := by
  rw [serves_to hs n hn hl hc _ ha]; rfl

/-- R176, R178: a request that is refused. -/
theorem serves_refused {st : Status} (ha : serve code args (s.heard h) = refuseWith st (s.heard h)) :
    Host.Outcome.next (s.arrive (some (frameTo s h Kind.request (tag :: code :: args))))
      = (.next (s.served h tag code args st [] (s.heard h)) : Effect) := by
  rw [serves_to hs n hn hl hc _ ha]; rfl

end served

/-! ## WRITE TYPE ENTRY (R6 to R8) -/

theorem typeEntry_bytes_length (e : TypeEntry) : e.bytes.length = 27 := by simp [TypeEntry.bytes, beBytes_two]

theorem refused_iff (o : TypeEntry) :
    o.refused = true ↔ o.pt < 1000 ∨ 60000 < o.pt ∨ o.ree = 0 ∨ o.permLimit = 0 := by
  simp [TypeEntry.refused, or_assoc]

/-- R8: a bank other than A or B, or a type code outside 0..63. -/
theorem writeType_badIndex {args : List Byte} (s : State)
    (h : bankOf (byteAt args 0) = none ∨ indexOf 64 (byteAt args 1) = none) : writeType args s = refuseWith .badIndex s := by
  unfold writeType
  split
  case h_1 hk hi => simp [hk, hi] at h
  case h_2 => rfl

section named
variable {args : List Byte} {s : State} {k : BankId} {c : TypeCode}
  (hk : bankOf (byteAt args 0) = some k) (hi : indexOf 64 (byteAt args 1) = some c)
include hk hi

/-- R8: an ACTIVE or a RETIRING bank refuses the write. -/
theorem writeType_refused {st : Status} (hb : (s.banks.get k).state.writeRefusal = some st) :
    writeType args s = refuseWith st s := by
  simp [writeType, hk, hi, hb]

variable (hb : (s.banks.get k).state = .standby)
include hb

/-- R8: an entry with a test pressure, an expansion limit or a permanent limit out of its range. -/
theorem writeType_badValue (hv : (typeEntryAt args 2).valid = true) (hr : (typeEntryAt args 2).refused = true) :
    writeType args s = refuseWith .badValue s := by
  simp [writeType, hk, hi, hb, BankState.writeRefusal, hv, hr]

/-- R6, R8: a valid entry is stored clamped. -/
theorem writeType_valid (hv : (typeEntryAt args 2).valid = true) (hr : (typeEntryAt args 2).refused = false) :
    writeType args s = doneWith (beBytes 3 (clampIndication (typeEntryAt args 2) (typeEntryAt args 2).clamped))
      (s.setBank k ((s.banks.get k).putType c (typeEntryAt args 2).clamped)) := by
  simp [writeType, hk, hi, hb, BankState.writeRefusal, hv, hr]

/-- R7: an entry offered with its valid mark clear clears the entry. -/
theorem writeType_clear (hv : (typeEntryAt args 2).valid = false) :
    writeType args s = doneWith (beBytes 3 0) (s.setBank k ((s.banks.get k).putType c TypeEntry.invalid)) := by
  simp [writeType, hk, hi, hb, BankState.writeRefusal, hv]

end named

/-- Settles O25: each clause is one case of `writeType`. -/
theorem typeEntryIsWritten : Obligations.TypeEntryIsWritten := by
  intro s h tag k c o ho args b e refused stored answer
  have hk : bankOf (byteAt args 0) = some k := bankOf_code k
  have hi : indexOf 64 (byteAt args 1) = some c := indexOf_byteOf c (by decide)
  have ht : typeEntryAt args 2 = o := typeEntryAt_bytes _ _ ho
  have hl (x y : Byte) : (x :: y :: o.bytes).length = 29 := by simp [typeEntry_bytes_length]
  have hbank : (s.heard h).banks.get k = b := by rw [heard_banks]
  refine ⟨fun hs => ⟨fun hb => ?_, fun hb => ?_, fun hb hv hr => ?_, fun hb hv hr => ?_, fun hb hv => ?_⟩,
    fun x y hxy hs => ?_⟩
  · exact serves_refused hs 29 rfl (hl ..) (by decide) (writeType_refused hk hi (by rw [hbank, hb]; rfl))
  · exact serves_refused hs 29 rfl (hl ..) (by decide) (writeType_refused hk hi (by rw [hbank, hb]; rfl))
  · exact serves_refused hs 29 rfl (hl ..) (by decide)
      (writeType_badValue hk hi (hbank ▸ hb) (ht ▸ hv) (ht ▸ (refused_iff o).mpr hr))
  · have hw := writeType_valid hk hi (hbank ▸ hb) (ht ▸ hv) (ht ▸ Bool.eq_false_iff.mpr (mt (refused_iff o).mp hr))
    rw [ht, heard_setBank, hbank] at hw
    exact serves_done hs 29 rfl (hl ..) (by decide) hw
  · have hw := writeType_clear hk hi (hbank ▸ hb) (ht ▸ hv)
    rw [heard_setBank, hbank] at hw
    exact serves_done hs 29 rfl (hl ..) (by decide) hw
  · exact serves_refused hs 29 rfl (hl ..) (by decide)
      (writeType_badIndex _ (hxy.imp bankOf_eq_none.mpr indexOf_eq_none.mpr))

/-! ## COPY and ACTIVATE (R12, R16, R17) -/

theorem hasType_iff (x : Bank) : x.hasType = true ↔ ∃ c : Fin 64, x.typeTable[c].valid = true := by
  simp only [Bank.hasType, List.any_eq_true, Vector.mem_toList_iff, Vector.mem_iff_getElem]
  constructor
  · rintro ⟨_, ⟨i, hi, rfl⟩, hv⟩; exact ⟨⟨i, hi⟩, hv⟩
  · rintro ⟨c, hv⟩; exact ⟨_, ⟨c.val, c.isLt, rfl⟩, hv⟩

/-- Settles O28: with the ACTIVE bank known, by the other bank's state and its type entries. -/
theorem banksAreCopiedAndActivated : Obligations.BanksAreCopiedAndActivated := by
  intro s h tag k x y hx hy
  have hid : (s.heard h).banks.activeId = k := by rw [heard_banks]; exact activeId_of hx hy
  have hgk : (s.heard h).banks.get k = x := by rw [heard_banks]
  have hgo : (s.heard h).banks.get k.other = y := by rw [heard_banks]
  have copied : copyBank (s.heard h) = if y.state = .retiring then refuseWith .busy (s.heard h)
      else doneWith [] ((s.heard h).setBank k.other { y with matchTable := x.matchTable, typeTable := x.typeTable }) := by
    simp only [copyBank, hid, hgk, hgo]
  have activated : activate (s.heard h) = if y.state = .retiring then refuseWith .busy (s.heard h)
      else if y.hasType then doneWith [k.other.code, x.gen + 1]
        (((s.heard h).setBank k { x with state := if 0 < x.refs then .retiring else .standby }).setBank k.other
          { y with state := .active, gen := x.gen + 1 })
      else refuseWith .emptyBank (s.heard h) := by
    simp only [activate, hid, hgk, hgo]
  refine ⟨fun hs => ⟨fun hb => ?_, fun hb => ?_⟩, fun hs => ⟨fun hb => ?_, fun hb hn => ?_, fun hb he => ?_⟩⟩
  · exact serves_refused hs 0 rfl rfl (by decide) (copied.trans (if_pos hb))
  · refine serves_done hs 0 rfl rfl (by decide) (copied.trans ?_)
    rw [if_neg (by simp [hb]), heard_setBank]
  · exact serves_refused hs 0 rfl rfl (by decide) (activated.trans (if_pos hb))
  · refine serves_refused hs 0 rfl rfl (by decide) (activated.trans ?_)
    have none : ¬ y.hasType = true := fun e => by
      obtain ⟨c, hc⟩ := (hasType_iff y).mp e
      exact Bool.false_ne_true ((hn c).symm.trans hc)
    rw [if_neg (by simp [hb]), if_neg none]
  · refine serves_done hs 0 rfl rfl (by decide) (activated.trans ?_)
    rw [if_neg (by simp [hb]), if_pos ((hasType_iff y).mpr he), heard_setBank]
    rfl

/-! ## Admission (R176) -/

/-- R176: a request that is not the supervisor's, or not served. -/
theorem arrive_answered {s : State} {h : Hdr} {tag code : Byte} {args : List Byte} {st : Status}
    (hh : s.Hears h (tag :: code :: args)) (hr : (s.heard h).request h.src (tag :: code :: args)
      = (State.answer h.src tag code (refuseWith st (s.heard h)), true)) :
    s.arrive (some (frameTo s h Kind.request (tag :: code :: args))) = s.served h tag code args st [] (s.heard h) := by
  rw [arrive_frameTo hh, handle_request, hr]
  rfl

theorem request_stranger {s : State} {src tag code : Byte} {args : List Byte} (hi : s.mgmt.responder = .idle)
    (hn : src ≠ s.mgmt.latched.supervisor) :
    s.request src (tag :: code :: args) = (State.answer src tag code (refuseWith .notPermitted s), true) := by
  simp [State.request, hi, hn]

theorem request_supervisor {s : State} {src tag code : Byte} {args : List Byte} (hi : s.mgmt.responder = .idle)
    (hsrc : src = s.mgmt.latched.supervisor) :
    s.request src (tag :: code :: args) = (s.serveRequest src tag code args, true) := by
  simp [State.request, hi, hsrc]

/-- R176, R197: the request codes are 1 to 22. -/
theorem argLength_eq_none {code : Byte} (h : code = 0 ∨ 22 < code.toNat) : argLength code = none := by
  unfold argLength
  split <;> rcases h with rfl | h <;> first | rfl | omega | (exfalso; simp_all)

theorem argLength_of {code : Byte} (h1 : 1 ≤ code.toNat) (h22 : code.toNat ≤ 22) : argLength code
    = some ([2, 29, 2, 12, 0, 0, 0, 1, 2, 1, 7, 2, 1, 20, 19, 3, 0, 0, 2, 0, 8, 0].getD (code.toNat - 1) 0) := by
  unfold argLength
  generalize code.toNat = c at h1 h22
  interval_cases c <;> rfl

/-- R194, R199: a service value other than 0 and 1. -/
theorem setService_unknown {x y : Byte} (s : State) (hy : 1 < y.toNat) : setService [x, y] s
    = refuseWith (if x.toNat < 8 ∨ Sys2Proof.Config.serviceIsCheckedFirst then .badValue else .badIndex) s := by
  have h1 : y ≠ 1 := fun e => by subst e; exact absurd hy (by decide)
  have h0 : y ≠ 0 := fun e => by subst e; exact absurd hy (by decide)
  have hb : byteAt [x, y] 1 = y := rfl
  unfold setService
  rw [hb, if_neg h1, if_neg h0]
  rfl

/-- R199: a tally action other than 0 and 1. -/
theorem readTallies_unknown {x y : Byte} (s : State) (hx : 1 < x.toNat) : readTallies [x, y] s = refuseWith .badValue s := by
  have hb : byteAt [x, y] 0 = x := rfl
  unfold readTallies
  rw [hb]
  dsimp only
  split <;> first | omega | rfl

/-- Settles O20: the checks of a request in their order. -/
theorem requestAdmission : Obligations.RequestAdmission := by
  intro s h p hh c lengths
  have handled : exec c s = .next (((s.heard h).request h.src p).1.passOn (frameTo s h 9 p) ((s.heard h).request h.src p).2) := by
    refine congrArg _ ((arrive_frameTo hh Kind.request).trans ?_)
    rw [handle_request]; rfl
  have idle (hi : s.mgmt.responder = .idle) : (s.heard h).mgmt.responder = .idle := by rw [heard_mgmt]; exact hi
  have sup : (s.heard h).mgmt.latched.supervisor = s.mgmt.latched.supervisor := by rw [heard_mgmt]
  refine ⟨fun hi => ?busy, fun hi hp => ?short, fun tag code args hp hi => ⟨fun hn => ?stranger, fun hsrc hc => ?unknown,
    fun hsrc h1 h22 hl => ?length, fun hsrc x y ha => ⟨fun hc hy hx => ?value, fun hc hy hx => ?either, fun hc hx => ?action⟩⟩⟩
  case busy =>
    have busy : (s.heard h).mgmt.responder ≠ .idle := by rw [heard_mgmt]; exact hi
    rw [handled, show (s.heard h).request h.src p = (s.heard h, false) from if_pos busy]
  case short =>
    have ignored : (s.heard h).request h.src p = ((s.heard h).ignored, true) := by
      unfold State.request
      rw [if_neg (not_not.mpr (idle hi))]
      split
      · simp at hp
      · rfl
    rw [handled, ignored]
  all_goals subst hp
  case stranger => exact congrArg _ (arrive_answered hh (request_stranger (idle hi) (sup ▸ hn)))
  all_goals have admitted := request_supervisor (tag := tag) (code := code) (args := args) (idle hi) (hsrc.trans sup.symm)
  case unknown =>
    refine congrArg _ (arrive_answered hh (admitted.trans ?_))
    rw [State.serveRequest, argLength_eq_none hc]
  case length =>
    refine congrArg _ (arrive_answered hh (admitted.trans ?_))
    rw [State.serveRequest, argLength_of h1 h22]
    dsimp only
    rw [if_neg hl]
  all_goals subst hc ha
  case value =>
    refine serves_refused ⟨hh, hi, hsrc⟩ 2 rfl rfl (by decide) ((setService_unknown _ hy).trans ?_)
    rw [if_pos (.inl hx)]
  case either =>
    have answer := setService_unknown (x := x) (s.heard h) hy
    split at answer
    · exact .inl (serves_refused ⟨hh, hi, hsrc⟩ 2 rfl rfl (by decide) answer)
    · exact .inr (serves_refused ⟨hh, hi, hsrc⟩ 2 rfl rfl (by decide) answer)
  case action => exact serves_refused ⟨hh, hi, hsrc⟩ 2 rfl rfl (by decide) (readTallies_unknown _ hx)

end Sys2Proof.Machine
end


section
/-!
PROOFS. The reading requests (R10, R63, R179, R180, R188): the bytes of R197 and R198, and what each request answers.
-/

namespace Sys2Proof.Machine

/-! ## The bytes of entries (R197) -/

theorem append_congr {a b c d : List Byte} (h : a = b) (h' : c = d) : a ++ c = b ++ d := congrArg₂ _ h h'

/-- R197: an optional pressure range. -/
theorem pressureBytes_eq (o : Option PressureRange) : pressureBytes o = match o with
    | none => [0, 0, 0, 0]
    | some z => [byteOf (z.pmin / 256), byteOf z.pmin] ++ [byteOf (z.pmax / 256), byteOf z.pmax] := by
  cases o with
  | none => rfl
  | some z => simp only [pressureBytes, beBytes_two]

theorem station_bytes_eq (st : Station) (clock : Clock) (serial : Option (List Byte)) :
    st.bytes clock serial = st.cfg.addr :: (beBytes 2 st.cfg.k ++ beBytes 2 st.cfg.period
      ++ [byteOf st.cfg.silence, st.state.code, st.record.elim 0xFF fun n => byteOf n]
      ++ serialField (serial.getD [])
      ++ [byteOf st.step, flagByte st.sealPending + 2 * flagByte st.aborted + 4 * flagByte st.leaving
            + 8 * flagByte st.pressures.isSome, byteOf st.gaps]
      ++ beBytes 2 (timeToDeadline clock st.deadline / 65536) ++ beBytes 2 (timeToDeadline clock st.deadline)
      ++ pressureBytes st.pressures) := by
  simp only [Station.bytes, StationConfig.bytes, beBytes_four, List.cons_append, List.append_assoc, List.nil_append]
  cases st.record <;> rfl

/-- R63: the time to a deadline. -/
theorem timeToDeadline_eq (clock : Clock) (o : Option Clock) : timeToDeadline clock o = match o with
    | none => 4294967295
    | some d => if (clock - d).toNat < 2147483648 then 0 else (d - clock).toNat := by
  cases o with
  | none => rfl
  | some d => simp only [timeToDeadline, reached, decide_eq_true_eq]

theorem pressureBytes_length (o : Option PressureRange) : (pressureBytes o).length = 4 := by
  cases o <;> rfl

theorem serialField_length_of_le {sr : List Byte} (h : sr.length ≤ 16) : (serialField sr).length = 17 := by
  simp [serialField]; omega

theorem station_bytes_length (st : Station) (clock : Clock) {serial : Option (List Byte)}
    (h : (serial.getD []).length ≤ 16) : (st.bytes clock serial).length = 36 := by
  simp [station_bytes_eq, beBytes_two, serialField_length_of_le h, pressureBytes_length]

theorem options_bytes_eq (o : Options) : o.bytes = [o.own, o.supervisor, o.mark.c0, o.mark.c1, o.mark.c2, o.mark.c3,
    byteOf o.enabled, if o.gapMode = .strict then 1 else 0] := by
  unfold Options.bytes
  cases o.gapMode <;> rfl

/-! ## What the requests read -/

@[simp] theorem heard_testRec (h : Hdr) (s : State) (i : StationNo) : (s.heard h).testRec i = s.testRec i := by
  simp [State.testRec]

theorem readType_of {s : State} (k : BankId) (c : Fin 64) :
    readType [k.code, byteOf c] s = doneWith (s.banks.get k).typeTable[c].bytes s := by
  simp [readType, byteAt, indexOf_byteOf c (by decide)]

theorem readMatch_of {s : State} (k : BankId) (c : Fin 64) :
    readMatch [k.code, byteOf c] s = doneWith (s.banks.get k).matchTable[c].bytes s := by
  simp [readMatch, byteAt, indexOf_byteOf c (by decide)]

/-- R10: a bank other than A or B, or an index outside 0..63. -/
theorem reads_badIndex {s : State} {a b : Byte} (h : (a ≠ 1 ∧ a ≠ 2) ∨ 64 ≤ b.toNat) :
    readType [a, b] s = refuseWith .badIndex s ∧ readMatch [a, b] s = refuseWith .badIndex s := by
  have none : bankOf a = none ∨ indexOf 64 b = none := h.imp bankOf_eq_none.mpr indexOf_eq_none.mpr
  have unread (P : BankId → Fin 64 → Answer) : (match bankOf (byteAt [a, b] 0), indexOf 64 (byteAt [a, b] 1) with
      | some k, some c => P k c
      | _, _ => refuseWith .badIndex s) = refuseWith .badIndex s := by
    split
    case h_1 hk hi => simp_all [byteAt]
    case h_2 => rfl
  exact ⟨unread _, unread _⟩

/-- Settles O21: the layouts, and each request's answer in the state `heard`. -/
theorem readsAnswerWhatIsHeld : Obligations.ReadsAnswerWhatIsHeld := by
  refine ⟨fun e => ⟨?_, typeEntry_bytes_length e⟩, fun m => ⟨?_, matchEntry_bytes_length m⟩,
    fun st clock serial => ⟨?station, station_bytes_length st clock⟩, rfl, rfl, rfl, fun s h tag a b k c i j =>
      ⟨fun hs => ?_, fun hs => ?_, fun hab => ⟨fun hs => ?_, fun hs => ?_⟩, fun hs => ?_, fun hs => ?_, fun ha hs => ?_,
        fun n r ht hs => ?_, fun hn hs => ?_, fun ha hs => ?_, fun hs => ?options⟩⟩
  · simp only [TypeEntry.bytes, beBytes_two]; rfl
  · simp only [MatchEntry.bytes, beBytes_two]; rfl
  case station =>
    have left := timeToDeadline_eq clock st.deadline
    have flags : flagByte st.sealPending + 2 * flagByte st.aborted + 4 * flagByte st.leaving
        + 8 * flagByte st.pressures.isSome = (if st.sealPending then (1 : Byte) else 0) + (if st.aborted then 2 else 0)
          + (if st.leaving then 4 else 0) + (if st.pressures.isSome then 8 else 0) := by
      rw [flagByte_two, flagByte_four, flagByte_eight]; rfl
    rw [station_bytes_eq, flags]
    simp only [beBytes_two]
    refine congrArg (List.cons _) (append_congr (append_congr (append_congr (append_congr (append_congr (append_congr rfl ?_)
      rfl) rfl) (congrArg (fun n => [byteOf (n / 65536 / 256), byteOf (n / 65536)]) left))
      (congrArg (fun n => [byteOf (n / 256), byteOf n]) left)) (pressureBytes_eq _))
    cases st.record <;> rfl
  · refine serves_done hs 2 rfl rfl (by decide) ((readType_of k c).trans ?_)
    rw [heard_banks]
  · refine serves_done hs 2 rfl rfl (by decide) ((readMatch_of k c).trans ?_)
    rw [heard_banks]
  · exact serves_refused hs 2 rfl rfl (by decide) (reads_badIndex hab).1
  · exact serves_refused hs 2 rfl rfl (by decide) (reads_badIndex hab).2
  · refine serves_done hs 0 rfl rfl (by decide) ?_
    show bankStatus _ = _
    rw [bankStatus, heard_banks]; rfl
  · refine serves_done hs 1 rfl rfl (by decide) ?_
    show readRole _ _ = _
    simp [readRole, byteAt, unitIndex_byteOf]
  · refine serves_refused hs 1 rfl rfl (by decide) ?_
    show readRole _ _ = _
    simp [readRole, byteAt, unitIndex_outside ha]
  · refine serves_done hs 1 rfl rfl (by decide) ?_
    show readStation _ _ = _
    simp [readStation, byteAt, indexOf_byteOf j (by decide), testRec_of ht]
  · refine serves_done hs 1 rfl rfl (by decide) ?_
    show readStation _ _ = _
    simp [readStation, byteAt, indexOf_byteOf j (by decide), State.testRec, hn]
  · refine serves_refused hs 1 rfl rfl (by decide) ?_
    show readStation _ _ = _
    simp [readStation, byteAt, indexOf_eq_none.mpr ha]
  case options =>
    refine serves_done hs 0 rfl rfl (by decide) ?_
    show readOptions _ = _
    unfold readOptions
    congr 1
    rw [heard_mgmt, heard_dispatch]
    dsimp only
    rw [options_bytes_eq, options_bytes_eq]
    have gate : s.dispatch.gate.code = if s.dispatch.gate = .gateOpen then 1 else 0 := by cases s.dispatch.gate <;> rfl
    rw [gate]
    cases s.mgmt.store <;> cases s.mgmt.calendar <;> rfl

/-! ## A record's bytes (R198) -/

theorem readingBytes_length (o : Option Reading) : (readingBytes o).length = 4 := by cases o <;> rfl

theorem verdictBytes_length (o : Option Verdict) : (verdictBytes o).length = 2 := by cases o <;> rfl

theorem resultBytes_length (o : Option TestResult) : (resultBytes o).length = 33 := by
  cases o with
  | none => rfl
  | some t =>
    obtain ⟨_, _, _, _, _, _, _, _, expansion⟩ := t
    rcases expansion with _ | ⟨_, _, _ | _⟩ <;>
      simp [resultBytes, readingBytes_length, pressureBytes_length, signed24, beBytes_three, beBytes_two, permOf]

theorem part1_length (n : RecNo) (i : Option StationNo) {r : Record} (h : r.serial.length ≤ 16) :
    (r.part1 n i).length = 44 := by
  unfold Record.part1
  cases r.bank <;> simp [beBytes_four, beBytes_two, serialField_length_of_le h, verdictBytes_length]

theorem part2_length (n : RecNo) (r : Record) : (r.part2 n).length = 44 := by
  simp [Record.part2, beBytes_four, beBytes_two, resultBytes_length]

/-- R198: the test result, a member not present sent as zero. -/
theorem resultBytes_some (t : TestResult) : resultBytes (some t)
    = [1 + 2 * flagByte t.pressures.isSome + 4 * flagByte t.total.isSome + 8 * flagByte t.settled.isSome
        + 16 * flagByte t.expansion.isSome + 32 * flagByte (permOf t.expansion).isSome,
      byteOf t.station, byteOf t.attempt, t.gen]
      ++ readingBytes (some t.zero) ++ readingBytes t.total ++ readingBytes t.settled ++ pressureBytes t.pressures
      ++ [byteOf t.gaps] ++ (t.expansion.elim [0, 0, 0] fun e => signed24 e.et)
      ++ ((permOf t.expansion).elim [0, 0, 0, 0, 0, 0, 0, 0] fun z => signed24 z.ep ++ signed24 z.elastic ++ beBytes 2 z.ratio)
      ++ [t.expansion.elim 0 fun e => e.flags.code] := by
  obtain ⟨_, _, _, _, _, _, _, _, expansion⟩ := t
  simp only [← beBytes_three_signed]
  rcases expansion with _ | ⟨_, _, _ | _⟩ <;> rfl

/-! ## The name of a record (R43, R179) -/

theorem nameRecord_number {s : State} (n : RecNo) (field : List Byte) :
    s.nameRecord 0 (byteOf n) field = if (s.getRec n).isSome then .ok n else .error .absent := by
  simp [State.nameRecord, indexOf_byteOf n (by decide)]

theorem nameRecord_beyond {s : State} {x : Byte} (field : List Byte) (h : 128 ≤ x.toNat) :
    s.nameRecord 0 x field = .error .badIndex := by
  simp [State.nameRecord, indexOf_eq_none.mpr h]

theorem nameRecord_serial {s : State} {x : Byte} {field sr : List Byte} {n : RecNo} {r : Record}
    (hs : serialOf field = some sr) (h : s.Holds sr n r) : s.nameRecord 1 x field = .ok n := by
  simp [State.nameRecord, hs, findSerial_of h]

theorem nameRecord_absent {s : State} {x : Byte} {field sr : List Byte} (hs : serialOf field = some sr) (h : s.Lacks sr) :
    s.nameRecord 1 x field = .error .absent := by
  simp [State.nameRecord, hs, findSerial_none h]

theorem nameRecord_malformed {s : State} {x : Byte} {field : List Byte} (hs : serialOf field = none) :
    s.nameRecord 1 x field = .error .badValue := by
  simp [State.nameRecord, hs]

/-- R179: the selectors are 0 and 1. -/
theorem nameRecord_unknown {s : State} {x y : Byte} {field : List Byte} (h : 2 ≤ y.toNat) :
    s.nameRecord y x field = .error .badValue := by
  have h0 : y ≠ 0 := fun e => by subst e; exact absurd h (by decide)
  have h1 : y ≠ 1 := fun e => by subst e; exact absurd h (by decide)
  unfold State.nameRecord
  rw [if_neg h0, if_neg h1]

@[simp] theorem heard_nameRecord (h : Hdr) (s : State) (y x : Byte) (field : List Byte) :
    (s.heard h).nameRecord y x field = s.nameRecord y x field := by
  simp [State.nameRecord]

/-! ## READ RECORD (R179) -/

/-- R179: the station that holds a record ON TEST. -/
theorem stationOf_of {s : State} {n : RecNo} {i : StationNo} (h : (s.station i).record = some n)
    (hu : ∀ j, (s.station j).record = some n → j = i) : s.stationOf n = some i := by
  unfold State.stationOf
  rw [find_finRange_eq_some]
  refine ⟨by simp [h], fun j hj => ?_⟩
  rw [beq_eq_false_iff_ne]
  exact fun e => hj.ne (hu j e)

section readRecord
variable {s : State} {sel part num : Byte} {field : List Byte} (hl : field.length = 17)
include hl

/-- R179: the part of a named record. -/
theorem readRecord_named {n : RecNo} {r : Record} (hn : s.nameRecord sel num field = .ok n) (hr : s.getRec n = some r) :
    readRecord (sel :: part :: num :: field) s
      = if part = 1 ∨ part = 2 then doneWith (s.recordPart n r part) s else refuseWith .badValue s := by
  have ht : field.take 17 = field := List.take_of_length_le hl.le
  have known : (part != 1 && part != 2) = !decide (part = 1 ∨ part = 2) := by rw [Bool.decide_or, Bool.not_or]; rfl
  unfold readRecord
  simp only [show byteAt (sel :: part :: num :: field) 0 = sel from rfl, show byteAt (sel :: part :: num :: field) 1 = part
    from rfl, show byteAt (sel :: part :: num :: field) 2 = num from rfl, List.drop_succ_cons, List.drop_zero, ht, hn, hr, known]
  by_cases hp : part = 1 ∨ part = 2
  · rw [if_pos hp, decide_eq_true hp]; rfl
  · rw [if_neg hp, decide_eq_false hp]; rfl

/-- R179: a name that is refused, of a part that is not. -/
theorem readRecord_refused {st : Status} (hn : s.nameRecord sel num field = .error st) (hp : part = 1 ∨ part = 2) :
    readRecord (sel :: part :: num :: field) s = refuseWith st s := by
  have ht : field.take 17 = field := List.take_of_length_le hl.le
  rcases hp with rfl | rfl <;> simp [readRecord, byteAt, ht, hn]

end readRecord

/-- R179: an unknown selector is BAD VALUE, whatever the part. -/
theorem readRecord_unknown {s : State} {y part x : Byte} {field : List Byte} (h : 2 ≤ y.toNat) :
    readRecord (y :: part :: x :: field) s = refuseWith .badValue s := by
  have hn : s.nameRecord y x (field.take 17) = .error .badValue := nameRecord_unknown h
  simp [readRecord, byteAt, hn]

/-- Settles O22: the layouts of both parts, and the answers by what the request names. -/
theorem recordIsRead : Obligations.RecordIsRead := by
  refine ⟨fun n i r => ⟨?part1, ?part2, fun h => ⟨part1_length n i h, part2_length n r⟩⟩, rfl, rfl, rfl, rfl,
    fun s h tag part x n field sr r hl => ⟨fun args hargs hs => ?_, fun hp => ⟨fun hs hg => ?_, fun hs hf hlack => ?_,
      fun hs hx => ?_, fun hs hf => ?_, fun y hy hs => ?_⟩⟩⟩
  case part1 =>
    have bank : (match r.bank with | none => [0, 0] | some b => [b.bank.code, b.gen] : List Byte)
        = match r.bank with | none => [0, 0] | some ⟨.a, g⟩ => [1, g] | some ⟨.b, g⟩ => [2, g] := by
      rcases r.bank with _ | ⟨_ | _, _⟩ <;> rfl
    unfold Record.part1
    simp only [beBytes_four, beBytes_two]
    refine congrArg (List.cons _) (append_congr (append_congr (append_congr (append_congr (append_congr (append_congr
      (append_congr (append_congr (append_congr (append_congr rfl ?states) rfl) rfl) rfl) rfl) ?type) bank) ?last) ?verdict) ?hold)
    case states => rcases r.seatedFrom with _ | _ | _ <;> cases i <;> rfl
    case type => cases r.typeCode <;> rfl
    case last => cases r.lastAbort <;> rfl
    case verdict => rcases r.verdict with _ | _ | _ | _ | _ <;> rfl
    case hold => cases r.holdReason <;> rfl
  case part2 =>
    unfold Record.part2
    simp only [beBytes_four, beBytes_two]
    refine congrArg (List.cons _) (append_congr rfl ?_)
    cases r.result with
    | none => rfl
    | some t =>
      have flag16 (b : Bool) : 16 * flagByte b = if b then 16 else 0 := by cases b <;> rfl
      have flag32 (b : Bool) : 32 * flagByte b = if b then 32 else 0 := by cases b <;> rfl
      have reading (o : Option Reading) : readingBytes o = match o with
          | none => [0, 0, 0, 0]
          | some z => [byteOf (z.level / 256), byteOf z.level] ++ [byteOf (z.temp / 256), byteOf z.temp] := by
        cases o with
        | none => rfl
        | some z => simp only [readingBytes, beBytes_two]
      rw [resultBytes_some]
      simp only [flagByte_two, flagByte_four, flagByte_eight, flag16, flag32, signed24_eq, beBytes_two, ClampFlags.code]
      refine append_congr (append_congr (append_congr (append_congr (append_congr (append_congr (append_congr (append_congr rfl
        (reading _)) (reading _)) (reading _)) (pressureBytes_eq _)) rfl) ?_) ?_) ?_
      · cases t.expansion <;> rfl
      · unfold permOf; cases t.expansion.bind (·.perm) <;> rfl
      · cases t.expansion <;> rfl
  · have named : ∃ sel num, args = sel :: part :: num :: field ∧ (s.heard h).nameRecord sel num field = .ok n
        ∧ (s.heard h).getRec n = some r := by
      rcases hargs with ⟨rfl, hg⟩ | ⟨rfl, hf, hh⟩
      · exact ⟨0, byteOf n, rfl, by rw [heard_nameRecord, nameRecord_number, hg]; rfl, by rw [heard_getRec, hg]⟩
      · exact ⟨1, x, rfl, by rw [heard_nameRecord, nameRecord_serial hf hh], by rw [heard_getRec, hh.1]⟩
    obtain ⟨sel, num, rfl, hn, hg⟩ := named
    have length : (sel :: part :: num :: field).length = 20 := by simp [hl]
    have read := readRecord_named (part := part) hl hn hg
    refine ⟨fun hp hst => ?_, fun hp hst i hi hu => ?_, fun hp => ?_, fun h1 h2 => ?_⟩
    · refine serves_done hs 20 rfl length (by decide) (read.trans ?_)
      rw [if_pos (.inl hp), State.recordPart, if_pos hp, if_neg hst]
    · refine serves_done hs 20 rfl length (by decide) (read.trans ?_)
      have station : (s.heard h).stationOf n = some i :=
        stationOf_of (by rw [heard_station, hi]) fun j hj => hu j (by rwa [heard_station] at hj)
      rw [if_pos (.inl hp), State.recordPart, if_pos hp, if_pos hst, station]
    · refine serves_done hs 20 rfl length (by decide) (read.trans ?_)
      rw [if_pos (.inr hp), State.recordPart, if_neg (by rw [hp]; decide)]
    · exact serves_refused hs 20 rfl length (by decide) (read.trans (if_neg (not_or.mpr ⟨h1, h2⟩)))
  all_goals have length (a b : Byte) : (a :: part :: b :: field).length = 20 := by simp [hl]
  · refine serves_refused hs 20 rfl (length ..) (by decide) (readRecord_refused hl ?_ hp)
    rw [heard_nameRecord, nameRecord_number, hg]; rfl
  · refine serves_refused hs 20 rfl (length ..) (by decide) (readRecord_refused hl ?_ hp)
    rw [heard_nameRecord, nameRecord_absent hf hlack]
  · refine serves_refused hs 20 rfl (length ..) (by decide) (readRecord_refused hl ?_ hp)
    rw [heard_nameRecord, nameRecord_beyond _ hx]
  · refine serves_refused hs 20 rfl (length ..) (by decide) (readRecord_refused hl ?_ hp)
    rw [heard_nameRecord, nameRecord_malformed hf]
  · exact serves_refused hs 20 rfl (length ..) (by decide) (readRecord_unknown hy)

end Sys2Proof.Machine
end


section
/-!
PROOFS. The writing requests of roles, stations, records, Calendar, gate and options (R43, R63, R81 to R83, R141, R180, R181,
R187).
-/

namespace Sys2Proof.Machine

/-! ## WRITE UNIT ROLE (R180) -/

theorem roleOfCode_eq_none {b : Byte} (h : 5 < b.toNat) : roleOfCode b = none := by
  unfold roleOfCode
  split <;> first | omega | rfl

theorem byteOf_unit_ne_zero (i : Fin 62) : byteOf (i.val + 1) ≠ 0 := by
  intro e
  have h := congrArg BitVec.toNat e
  rw [byteOf_toNat _ (by omega)] at h
  exact absurd h (by simp)

theorem isStationAddr_iff {s : State} {a : Byte} (h : a ≠ 0) : s.isStationAddr a = true ↔ ∃ j, (s.station j).cfg.addr = a := by
  unfold State.isStationAddr
  rw [Option.isSome_iff_ne_none, ne_eq, stationAt_eq_none, not_or, not_forall]
  simp only [ne_eq, not_not]
  exact and_iff_right h

theorem heldElsewhere_iff (s : State) (r : Role) (i : Fin 62) : s.heldElsewhere r i = true ↔ ∃ j, j ≠ i ∧ s.roles[j] = r := by
  simp [State.heldElsewhere]

theorem unique_iff (r : Role) : r.unique = true ↔ r = .markingPress ∨ r = .scrapCell ∨ r = .diverter := by
  cases r <;> simp [Role.unique]

theorem roleBusy_iff (s : State) (r : Role) : s.roleBusy r = true ↔ (r = .markingPress ∧ s.dispatch.markD ≠ .idle)
    ∨ (r = .scrapCell ∧ s.dispatch.scrapD ≠ .idle) ∨ (r = .diverter ∧ s.dispatch.routeD ≠ .idle) := by
  cases r <;> simp [State.roleBusy]

/-- R180: the checks of a role written to an address in range, in their order. -/
theorem writeRole_of (s : State) (i : Fin 62) (r : Role) : writeRole [byteOf (i.val + 1), r.code] s =
    if r ≠ .unassigned ∧ (byteOf (i.val + 1) = s.mgmt.latched.own ∨ byteOf (i.val + 1) = s.mgmt.latched.supervisor
        ∨ s.isStationAddr (byteOf (i.val + 1))) then refuseWith .badValue s
    else if r.unique ∧ s.heldElsewhere r i then refuseWith .badValue s
    else if r ≠ s.roles[i] ∧ s.roleBusy s.roles[i] then refuseWith .busy s
    else doneWith [] (s.setRole i r) := by
  have h0 : byteAt [byteOf (i.val + 1), r.code] 0 = byteOf (i.val + 1) := rfl
  have h1 : byteAt [byteOf (i.val + 1), r.code] 1 = r.code := rfl
  simp only [writeRole, h0, h1, unitIndex_byteOf, roleOfCode_code]

/-- R140, R180: a role written in the state `heard`. -/
theorem heard_setRole (h : Hdr) (s : State) (i : Fin 62) (r : Role) : (s.heard h).setRole i r = { s.heard h with
    roles := s.roles.set i.val r i.isLt
    dispatch := { (s.heard h).dispatch with
      diverterHeard := (s.heard h).dispatch.diverterHeard && decide (r = .diverter ↔ s.roles[i] = .diverter) } } := by
  have changed : ((r == .diverter) == (s.roles[i] == .diverter)) = decide (r = .diverter ↔ s.roles[i] = .diverter) := by
    generalize s.roles[i] = q
    by_cases hr : r = .diverter <;> by_cases hq : q = .diverter <;> simp [hr, hq]
  unfold State.setRole
  rw [heard_roles, changed]

/-- Settles O29: the checks of `writeRole` in their order. -/
theorem unitRoleIsWritten : Obligations.UnitRoleIsWritten := by
  refine ⟨rfl, fun s h tag a b i r => ?_⟩
  intro addr taken second inFlight answer
  have take : (r ≠ .unassigned ∧ (addr = (s.heard h).mgmt.latched.own ∨ addr = (s.heard h).mgmt.latched.supervisor
      ∨ (s.heard h).isStationAddr addr = true)) ↔ taken := by
    rw [isStationAddr_iff (byteOf_unit_ne_zero i)]
    simp only [heard_mgmt, heard_station]
    rfl
  have held : (r.unique = true ∧ (s.heard h).heldElsewhere r i = true) ↔ second := by
    rw [unique_iff, heldElsewhere_iff, heard_roles]
  have busy : ((s.heard h).roleBusy (s.heard h).roles[i] = true) ↔ inFlight := by
    rw [roleBusy_iff, heard_roles, heard_dispatch]
  have write := writeRole_of (s.heard h) i r
  refine ⟨fun hs => ⟨fun hbad => ?_, fun ht h2 hr hf => ?_, fun ht h2 hf => ?_⟩, fun hs => ⟨fun ha => ?_, fun h1 h62 hb => ?_⟩⟩
  · refine serves_refused hs 2 rfl rfl (by decide) (write.trans ?_)
    by_cases ht : taken
    · exact if_pos (take.mpr ht)
    · rw [if_neg (mt take.mp ht), if_pos (held.mpr (hbad.resolve_left ht))]
  · refine serves_refused hs 2 rfl rfl (by decide) (write.trans ?_)
    rw [if_neg (mt take.mp ht), if_neg (mt held.mp h2), if_pos ⟨by rw [heard_roles]; exact hr, busy.mpr hf⟩]
  · refine serves_done hs 2 rfl rfl (by decide) (write.trans ?_)
    have free : ¬ (r ≠ (s.heard h).roles[i] ∧ (s.heard h).roleBusy (s.heard h).roles[i] = true) := by
      rw [busy, heard_roles]
      rintro ⟨hr, hb⟩
      exact hf.elim hr fun h => h hb
    rw [if_neg (mt take.mp ht), if_neg (mt held.mp h2), if_neg free, heard_setRole]
  · refine serves_refused hs 2 rfl rfl (by decide) ?_
    show writeRole _ _ = _
    simp [writeRole, byteAt, unitIndex_outside ha]
  · refine serves_refused hs 2 rfl rfl (by decide) ?_
    show writeRole _ _ = _
    have index : unitIndex a = some ⟨a.toNat - 1, by omega⟩ := dif_pos ⟨h1, h62⟩
    simp [writeRole, byteAt, index, roleOfCode_eq_none hb]

/-! ## WRITE STATION ENTRY (R63) -/

theorem stationElsewhere_iff (s : State) (a : Byte) (i : StationNo) :
    s.stationElsewhere a i = true ↔ ∃ j, j ≠ i ∧ (s.station j).cfg.addr = a := by
  simp [State.stationElsewhere]

/-- R63: the checks of a station entry written, in their order. -/
theorem writeStation_of (s : State) (addr : Byte) (i : StationNo) {k period silence : Nat} (hk : k < 65536)
    (hp : period < 65536) (hl : silence < 256) :
    writeStation (byteOf i :: addr :: (beBytes 2 k ++ beBytes 2 period ++ [byteOf silence])) s =
      if (s.station i).state ≠ .outOfService then refuseWith .busy s
      else if addr = 0 then doneWith [0] (s.updStation i fun st => { st with cfg := ⟨0, 0, 0, 0⟩ })
      else if 62 < addr.toNat ∨ addr = s.mgmt.latched.own ∨ addr = s.mgmt.latched.supervisor ∨ s.stationElsewhere addr i
          ∨ s.roleOf addr ≠ .unassigned ∨ 4095 < k then refuseWith .badValue s
      else doneWith [byteOf (clampBit 0 period (clamp 100 2000 period) + clampBit 1 silence (clamp 1 30 silence))]
        (s.updStation i fun st => { st with cfg := ⟨addr, k, clamp 100 2000 period, clamp 1 30 silence⟩ }) := by
  simp only [beBytes_two, List.cons_append, List.nil_append]
  simp only [writeStation, byteAt, num16At, List.getD_cons_zero, List.getD_cons_succ, indexOf_byteOf i (by decide),
    num16_roundtrip k hk, num16_roundtrip period hp, byteOf_toNat silence hl]

theorem clampBits_byte (a b c d : Nat) :
    byteOf (clampBit 0 a b + clampBit 1 c d) = (if a = b then 0 else 1) + (if c = d then 0 else 2) := by
  unfold clampBit
  split <;> split <;> rfl

/-- Settles O30: the checks of `writeStation` in their order. -/
theorem stationEntryIsWritten : Obligations.StationEntryIsWritten := by
  intro s h tag addr x i k period silence hk hp hl rest args refused p l answer
  have length : (byteOf i :: rest).length = 7 := by simp [rest, beBytes_two]
  have refuse : (62 < addr.toNat ∨ addr = (s.heard h).mgmt.latched.own ∨ addr = (s.heard h).mgmt.latched.supervisor
      ∨ (s.heard h).stationElsewhere addr i = true ∨ (s.heard h).roleOf addr ≠ .unassigned ∨ 4095 < k) ↔ refused := by
    rw [stationElsewhere_iff]
    simp only [heard_mgmt, heard_station, heard_roleOf]
    rfl
  have write := writeStation_of (s.heard h) addr i hk hp hl
  rw [heard_station] at write
  refine ⟨fun hs => ⟨fun hst => ?_, fun hst => ⟨fun h0 => ?_, fun h0 hr => ?_, fun h0 hr => ?_⟩⟩, fun hs hx => ?_⟩
  · exact serves_refused hs 7 rfl length (by decide) (write.trans (if_pos hst))
  · refine serves_done hs 7 rfl length (by decide) (write.trans ?_)
    rw [if_neg (not_not.mpr hst), if_pos h0]
  · refine serves_refused hs 7 rfl length (by decide) (write.trans ?_)
    rw [if_neg (not_not.mpr hst), if_neg h0, if_pos (refuse.mpr hr)]
  · refine serves_done hs 7 rfl length (by decide) (write.trans ?_)
    rw [if_neg (not_not.mpr hst), if_neg h0, if_neg (mt refuse.mp hr), clampBits_byte]
    rfl
  · refine serves_refused hs 7 rfl length (by decide) ?_
    show writeStation _ _ = _
    simp [writeStation, byteAt, indexOf_eq_none.mpr hx]

/-! ## SET STATION SERVICE and CLEAR STATION FAULT (R81 to R83) -/

/-- R81: the checks of SET STATION SERVICE in. -/
theorem serviceIn_of (s : State) (i : StationNo) : serviceIn (byteOf i) s =
    if s.mgmt.latched.enabled ≤ i.val then refuseWith .badIndex s
    else if (s.station i).cfg.addr = 0 then refuseWith .notReady s
    else if (s.station i).state = .outOfService then doneWith [StState.vacant.code] (s.vacantNow i)
    else doneWith [(s.station i).state.code] s := by
  simp only [serviceIn, indexOf_byteOf i (by decide)]

theorem serviceOut_of (s : State) (i : StationNo) :
    serviceOut (byteOf i) s = doneWith [((s.takeOut i).station i).state.code] (s.takeOut i) := by
  simp only [serviceOut, indexOf_byteOf i (by decide)]

/-- R83: CLEAR STATION FAULT by the station's state. -/
theorem clearFault_of (s : State) (i : StationNo) : clearFault [byteOf i] s =
    if (s.station i).state = .faulted ∨ (s.station i).state = .resync then doneWith [2] (s.vacantNow i)
    else if (s.station i).state = .vacant then doneWith [2] s
    else if (s.station i).state = .outOfService then doneWith [1] s
    else refuseWith .busy s := by
  have hi : indexOf 8 (byteAt [byteOf i] 0) = some i := indexOf_byteOf i (by decide)
  unfold clearFault
  rw [hi]
  cases hst : (s.station i).state <;> simp [hst, StState.code]

/-- Settles O31: the branches of `serviceIn` and `clearFault`. -/
theorem stationEntersServiceOrIsCleared : Obligations.StationEntersServiceOrIsCleared := by
  intro s h tag x i vacant inward clear
  have now : (s.heard h).vacantNow i = vacant := by
    unfold State.vacantNow; rw [heard_clock]; rfl
  have service := serviceIn_of (s.heard h) i
  have clears := clearFault_of (s.heard h) i
  rw [heard_station, now] at service clears
  rw [show (s.heard h).mgmt.latched.enabled = s.mgmt.latched.enabled by rw [heard_mgmt]] at service
  refine ⟨fun hs => ⟨fun he => ?_, fun he h0 => ?_, fun he h0 => ⟨fun hst => ?_, fun hst => ?_⟩⟩,
    fun hs => ⟨fun hst => ?_, fun hst => ?_, fun hst => ?_, fun hst => ?_⟩, fun hx => ⟨fun hs => ?_, fun hs => ?_⟩⟩
  · exact serves_refused hs 2 rfl rfl (by decide) (service.trans (if_pos he))
  · exact serves_refused hs 2 rfl rfl (by decide) (service.trans (by rw [if_neg he.not_ge, if_pos h0]))
  · exact serves_done hs 2 rfl rfl (by decide) (service.trans (by rw [if_neg he.not_ge, if_neg h0, if_pos hst]; rfl))
  · exact serves_done hs 2 rfl rfl (by decide) (service.trans (by rw [if_neg he.not_ge, if_neg h0, if_neg hst]))
  · exact serves_done hs 1 rfl rfl (by decide) (clears.trans (if_pos hst))
  · exact serves_done hs 1 rfl rfl (by decide) (clears.trans (by rw [hst]; rfl))
  · exact serves_done hs 1 rfl rfl (by decide) (clears.trans (by rw [hst]; rfl))
  · refine serves_refused hs 1 rfl rfl (by decide) (clears.trans ?_)
    cases h : (s.station i).state <;> first | rfl | (rw [h] at hst; exact absurd hst (by decide))
  · refine serves_refused hs 2 rfl rfl (by decide) ?_
    show serviceIn x _ = _
    simp [serviceIn, indexOf_eq_none.mpr hx]
  · refine serves_refused hs 1 rfl rfl (by decide) ?_
    show clearFault _ _ = _
    simp [clearFault, byteAt, indexOf_eq_none.mpr hx]

/-- R74: the state that the ordinary abort path leaves a station in. -/
theorem abortTest_state (s : State) (i : StationNo) (why : Reason) : ((s.abortTest i why).station i).state =
    match (s.station i).state with
    | .seated | .settling => .releasing
    | .ramping | .holding => .venting
    | st => st := by
  have same : ((s.endTest i why).station i).state = (s.station i).state := by rw [station_endTest]
  unfold State.abortTest State.abortPath
  rw [same]
  cases hst : (s.station i).state <;> simp [State.releaseWith, State.ventAborted, Station.releasing, State.orderStation, same, hst]

section takeOut
variable {s : State} {i : StationNo}

theorem takeOut_outOfService (h : (s.station i).state = .outOfService) : s.takeOut i = s := by
  unfold State.takeOut; rw [h]

/-- R82: a station with no cylinder in its hands leaves at once. -/
theorem takeOut_emptied (h : (s.station i).state = .vacant ∨ (s.station i).state = .faulted ∨ (s.station i).state = .resync) :
    s.takeOut i = s.updStation i (·.emptied .outOfService) := by
  unfold State.takeOut; rcases h with h | h | h <;> rw [h]

theorem takeOut_releasing (h : (s.station i).state = .releasing) :
    s.takeOut i = s.updStation i fun st => { st with leaving := true } := by
  unfold State.takeOut; rw [h]

/-- R82: a test in progress is ended with reason ABORTED. -/
theorem takeOut_inCycle (h : (s.station i).state.inCycle = true) :
    s.takeOut i = (s.abortTest i .aborted).updStation i fun st => { st with leaving := true } := by
  unfold State.takeOut
  cases hst : (s.station i).state <;> rw [hst] at h <;> first | rfl | exact absurd h (by decide)

end takeOut

/-- Settles O32: the branches of `takeOut`. -/
theorem stationLeavesService : Obligations.StationLeavesService := by
  intro s h tag x i out leave
  have out_of {t : State} {st : StState} (hs : s.Serves h [tag, 12, byteOf i, 0]) (ht : (s.heard h).takeOut i = t)
      (hst : (t.station i).state = st) : out st.code t := by
    subst ht hst
    exact serves_done hs 2 rfl rfl (by decide) (serviceOut_of (s.heard h) i)
  have same : (s.heard h).station i = s.station i := heard_station ..
  have aborted := abortTest_state (s.heard h) i .aborted
  rw [same] at aborted
  refine ⟨fun hs => ⟨fun hst => ?_, fun hst => ?_, fun hst => ?_, fun hst => ?_, fun hst => ?_⟩, fun hs hx => ?_⟩
  · exact out_of (st := .outOfService) hs (takeOut_outOfService (same ▸ hst)) (same ▸ hst)
  · exact out_of (st := .outOfService) hs (takeOut_emptied (same ▸ hst)) (by rw [station_updStation_self])
  · exact out_of (st := .releasing) hs (takeOut_releasing (same ▸ hst)) (by simp [leave, hst])
  · refine out_of (st := .releasing) hs (takeOut_inCycle ?_) ?_
    · rw [same]; rcases hst with hst | hst <;> rw [hst] <;> rfl
    · simp only [leave, station_updStation_self, aborted]
      rcases hst with hst | hst <;> rw [hst]
  · refine out_of (st := .venting) hs (takeOut_inCycle ?_) ?_
    · rw [same]; rcases hst with hst | hst | hst <;> rw [hst] <;> rfl
    · simp only [leave, station_updStation_self, aborted]
      rcases hst with hst | hst | hst <;> rw [hst]
  · refine serves_refused hs 2 rfl rfl (by decide) ?_
    show serviceOut x _ = _
    simp [serviceOut, indexOf_eq_none.mpr hx]

/-! ## REMOVE RECORD (R43) -/

section removeRecord
variable {s : State} {sel num : Byte} {field : List Byte} (hl : field.length = 17)
include hl

/-- R43: a named record, by its state. -/
theorem removeRecord_named {n : RecNo} {r : Record} (hn : s.nameRecord sel num field = .ok n) (hr : s.getRec n = some r) :
    removeRecord (sel :: num :: field) s
      = if r.state = .hold ∨ r.state.isClosed = true then doneWith [] (s.freeRec n) else refuseWith .busy s := by
  have ht : field.take 17 = field := List.take_of_length_le hl.le
  simp [removeRecord, byteAt, ht, hn, hr]

theorem removeRecord_refused {st : Status} (hn : s.nameRecord sel num field = .error st) :
    removeRecord (sel :: num :: field) s = refuseWith st s := by
  have ht : field.take 17 = field := List.take_of_length_le hl.le
  simp [removeRecord, byteAt, ht, hn]

end removeRecord

/-- Settles O33: by what the request names and the record's state. -/
theorem recordIsRemoved : Obligations.RecordIsRemoved := by
  intro s h tag x n field sr r hl byNumber bySerial answer
  have length (a b : Byte) : (a :: b :: field).length = 19 := by simp [hl]
  refine ⟨fun args hargs hs => ?_, fun hs hg => ?_, fun hs hf hlack => ?_, fun hs hx => ?_, fun hs hf => ?_, fun y hy hs => ?_⟩
  · have named : ∃ sel num, args = sel :: num :: field ∧ (s.heard h).nameRecord sel num field = .ok n
        ∧ (s.heard h).getRec n = some r := by
      rcases hargs with ⟨rfl, hg⟩ | ⟨rfl, hf, hh⟩
      · exact ⟨0, byteOf n, rfl, by rw [heard_nameRecord, nameRecord_number, hg]; rfl, by rw [heard_getRec, hg]⟩
      · exact ⟨1, x, rfl, by rw [heard_nameRecord, nameRecord_serial hf hh], by rw [heard_getRec, hh.1]⟩
    obtain ⟨sel, num, rfl, hn, hg⟩ := named
    have remove := removeRecord_named hl hn hg
    refine ⟨fun hst => ?_, fun hst => ?_⟩
    · refine serves_done hs 19 rfl (length ..) (by decide) (remove.trans ?_)
      have free : r.state = .hold ∨ r.state.isClosed = true :=
        hst.imp_right fun h => (isClosed_iff _).mpr (by simpa using h)
      rw [if_pos free]
      unfold State.freeRec State.unclose State.putRec State.updRecords
      rw [heard_records]
    · refine serves_refused hs 19 rfl (length ..) (by decide) (remove.trans (if_neg ?_))
      rcases hst with e | e | e | e | e | e | e | e <;> rw [e] <;> decide
  · refine serves_refused hs 19 rfl (length ..) (by decide) (removeRecord_refused hl ?_)
    rw [heard_nameRecord, nameRecord_number, hg]; rfl
  · refine serves_refused hs 19 rfl (length ..) (by decide) (removeRecord_refused hl ?_)
    rw [heard_nameRecord, nameRecord_absent hf hlack]
  · refine serves_refused hs 19 rfl (length ..) (by decide) (removeRecord_refused hl ?_)
    rw [heard_nameRecord, nameRecord_beyond _ hx]
  · refine serves_refused hs 19 rfl (length ..) (by decide) (removeRecord_refused hl ?_)
    rw [heard_nameRecord, nameRecord_malformed hf]
  · refine serves_refused hs 19 rfl (length ..) (by decide) (removeRecord_refused hl ?_)
    rw [heard_nameRecord, nameRecord_unknown hy]

/-! ## Calendar and gate (R141, R181) -/

theorem setCalendar_of (s : State) (m : Byte) {y : Nat} (hy : y < 65536) : setCalendar (m :: beBytes 2 y) s =
    if 1 ≤ m.toNat ∧ m.toNat ≤ 12 ∧ 2000 ≤ y ∧ y ≤ 2099 then
      doneWith (m :: beBytes 2 y) (s.updMgmt fun x => { x with calendar := some ⟨m.toNat, y⟩ })
    else refuseWith .badValue s := by
  have month : byteOf m.toNat = m := by simp [byteOf]
  simp only [setCalendar, beBytes_two, byteAt, num16At, List.getD_cons_zero, List.getD_cons_succ, num16_roundtrip y hy, month]

/-- Settles O34: the branches of each request. -/
theorem calendarAndGateAreSet : Obligations.CalendarAndGateAreSet := by
  intro s h tag m y hy args good gate
  have opens : openGate (s.heard h) = if s.mgmt.calendar = none ∨ s.mgmt.latched.mark = ⟨0x20, 0x20, 0x20, 0x20⟩ then
      refuseWith .notReady (s.heard h) else doneWith [1] (gate .gateOpen) := by
    have blank : s.mgmt.latched.mark.blank = true ↔ s.mgmt.latched.mark = ⟨0x20, 0x20, 0x20, 0x20⟩ := beq_iff_eq
    unfold openGate
    rw [heard_mgmt]
    simp only [blank]
    rfl
  refine ⟨fun hs => ⟨fun hg => ?_, fun hg => ?_⟩, fun hs => ⟨fun hn => ?_, fun hc hm => ?_⟩, fun hs => ?_⟩
  · exact serves_done hs 3 rfl rfl (by decide) ((setCalendar_of _ m hy).trans (if_pos hg))
  · exact serves_refused hs 3 rfl rfl (by decide) ((setCalendar_of _ m hy).trans (if_neg hg))
  · exact serves_refused hs 0 rfl rfl (by decide) (opens.trans (if_pos hn))
  · exact serves_done hs 0 rfl rfl (by decide) (opens.trans (if_neg (not_or.mpr ⟨hc, hm⟩)))
  · exact serves_done hs 0 rfl rfl (by decide) rfl

/-! ## Options (R187, R190) -/

theorem markChar_iff (c : Byte) : markChar c = true
    ↔ c = 0x20 ∨ (0x30 ≤ c.toNat ∧ c.toNat ≤ 0x39) ∨ (0x41 ≤ c.toNat ∧ c.toNat ≤ 0x5A) := by
  simp [markChar, or_assoc]

/-- R187, R197: five values in range are read back from their bytes. -/
theorem optionsOf_bytes {o : Options} (ha : ∀ a ∈ [o.own, o.supervisor], 1 ≤ a.toNat ∧ a.toNat ≤ 62)
    (hn : o.own ≠ o.supervisor) (hm : ∀ c ∈ [o.mark.c0, o.mark.c1, o.mark.c2, o.mark.c3], markChar c = true)
    (h1 : 1 ≤ o.enabled) (h8 : o.enabled ≤ 8) : optionsOf o.bytes = some o := by
  obtain ⟨own, sup, ⟨c0, c1, c2, c3⟩, enabled, gap⟩ := o
  simp only [List.mem_cons, List.not_mem_nil, or_false, forall_eq_or_imp, forall_eq] at ha hm
  have count : (byteOf enabled).toNat = enabled := byteOf_toNat _ (by simp at h8; omega)
  obtain ⟨⟨o1, o62⟩, s1, s62⟩ := ha
  obtain ⟨m0, m1, m2, m3⟩ := hm
  unfold optionsOf Options.bytes
  simp only [byteAt, List.getD_cons_zero, List.getD_cons_succ, count]
  have gapCode : gap.code = 0 ∨ gap.code = 1 := by cases gap <;> simp [GapMode.code]
  rw [if_pos ⟨o1, o62, s1, s62, hn, m0, m1, m2, m3, h1, h8, gapCode⟩]
  cases gap <;> rfl

/-- R187: a value out of its range. -/
theorem optionsOf_eq_none {a b c d e f n g : Byte} (h : a = 0 ∨ 62 < a.toNat ∨ b = 0 ∨ 62 < b.toNat ∨ a = b
    ∨ (∃ x ∈ [c, d, e, f], markChar x = false) ∨ n = 0 ∨ 8 < n.toNat ∨ 1 < g.toNat) :
    optionsOf [a, b, c, d, e, f, n, g] = none := by
  refine if_neg ?_
  rintro ⟨a1, a62, b1, b62, hab, hc, hd, he, hf, n1, n8, hg⟩
  simp only [byteAt, List.getD_cons_zero, List.getD_cons_succ] at a1 a62 b1 b62 hab hc hd he hf n1 n8 hg
  rcases h with rfl | h | rfl | h | h | ⟨x, hx, hm⟩ | rfl | h | h
  · exact absurd a1 (by decide)
  · omega
  · exact absurd b1 (by decide)
  · omega
  · exact hab h
  · simp only [List.mem_cons, List.not_mem_nil, or_false] at hx
    rcases hx with rfl | rfl | rfl | rfl <;> simp_all
  · exact absurd n1 (by decide)
  · omega
  · rcases hg with rfl | rfl <;> exact absurd h (by decide)

/-- R187: the completion of a write in progress. -/
theorem writeComplete_working {s : State} {w : PendingWrite} (h : s.mgmt.responder = .working w) : s.writeComplete =
    if w.cancelled then s.updMgmt fun m => { m with store := .holds w.options, responder := .idle }
    else (s.updMgmt fun m => { m with store := .holds w.options, responder := .idle }).reply w.dst w.tag 21 .done [0] := by
  unfold State.writeComplete; rw [h]

/-- Settles O35: the write begins, is refused, and completes. -/
theorem optionsAreWritten : Obligations.OptionsAreWritten := by
  refine ⟨markChar_iff, fun s h tag o hs ha hn hm h1 h8 => ?_, fun s h tag a b c d e f n g hs hbad => ?_, fun s =>
    ⟨fun o dst tag hr => ?_, fun o dst tag hr => ?_, fun hr => ?_⟩⟩
  · obtain ⟨hh, hi, hsrc⟩ := hs
    refine congrArg Host.Outcome.next ((arrive_frameTo hh Kind.request).trans ?_)
    have idle : (s.heard h).mgmt.responder = .idle := by rw [heard_mgmt]; exact hi
    have sup : h.src = (s.heard h).mgmt.latched.supervisor := by rw [heard_mgmt]; exact hsrc
    have begins : (s.heard h).serveRequest h.src tag 21 o.bytes = (s.heard h).beginWrite h.src tag o := by
      unfold State.serveRequest
      rw [optionsOf_bytes ha hn hm h1 h8]
      rfl
    rw [handle_request, request_supervisor idle sup, begins]
    rfl
  · refine congrArg Host.Outcome.next ((exec_serves hs 8 rfl rfl fun _ => optionsOf_eq_none hbad).trans ?_)
    rfl
  · exact congrArg Host.Outcome.next (writeComplete_working hr)
  · exact congrArg Host.Outcome.next (writeComplete_working hr)
  · refine congrArg Host.Outcome.next ?_
    unfold State.writeComplete
    split
    case h_1 w hw => exact absurd hw (hr w)
    case h_2 => rfl

end Sys2Proof.Machine
end


section
/-!
PROOFS. Intake reads (R24, R31 to R41) and FINDING frames (R48 to R59).
-/

namespace Sys2Proof.Machine

/-! ## Serial fields (R24, R191) -/

theorem serialChar_iff (c : Byte) : serialChar c = true ↔ c = 0x2D ∨ c = 0x2F ∨ (0x30 ≤ c.toNat ∧ c.toNat ≤ 0x39)
    ∨ (0x41 ≤ c.toNat ∧ c.toNat ≤ 0x5A) := by
  simp [serialChar, or_assoc]

/-- R191: the characters within the length of a serial field. -/
theorem serialCut_all_iff {field : List Byte} (hl : field.length = 17) (hn : (byteAt field 0).toNat ≤ 16) :
    (serialCut field).all serialChar = true
      ↔ ∀ i, 1 ≤ i → i ≤ (byteAt field 0).toNat → serialChar (byteAt field i) = true := by
  rw [List.all_eq_true]
  have length : (serialCut field).length = (byteAt field 0).toNat := by simp [serialCut, hl]; omega
  have char (j : Nat) (hj : j < (serialCut field).length) : (serialCut field)[j] = byteAt field (j + 1) := by
    have hj' : j + 1 < field.length := by omega
    simp [serialCut, byteAt, List.getElem?_eq_getElem hj']
  constructor
  · intro h i h1 hi
    have hj : i - 1 < (serialCut field).length := by omega
    have := h _ (List.getElem_mem hj)
    rwa [char, Nat.sub_add_cancel h1] at this
  · intro h x hx
    obtain ⟨j, hj, rfl⟩ := List.mem_iff_getElem.mp hx
    rw [char]
    exact h (j + 1) (by omega) (by omega)

/-- R191: the malformed serial fields. -/
theorem serialOf_eq_none_iff {field : List Byte} (hl : field.length = 17) : serialOf field = none
    ↔ (byteAt field 0).toNat = 0 ∨ 16 < (byteAt field 0).toNat
      ∨ ∃ i, 1 ≤ i ∧ i ≤ (byteAt field 0).toNat ∧ serialChar (byteAt field i) = false := by
  unfold serialOf
  dsimp only
  rcases Nat.lt_or_ge 16 (byteAt field 0).toNat with hgt | hle
  · rw [if_neg (by omega)]
    exact iff_of_true rfl (.inr (.inl hgt))
  · simp only [serialCut_all_iff hl hle]
    split
    case isTrue h =>
      refine iff_of_false nofun ?_
      rintro (h0 | h16 | ⟨i, h1, hi, hc⟩)
      · omega
      · omega
      · exact absurd (h.2.2 i h1 hi) (by simp [hc])
    case isFalse h =>
      refine iff_of_true rfl ?_
      by_contra hn
      simp only [not_or, not_exists, not_and, Bool.not_eq_false] at hn
      exact h ⟨by omega, hle, hn.2.2⟩

/-! ## Intake reads (R32, R33) -/

theorem intake_length {s : State} {p : List Byte} (h : p.length ≠ 25) : s.intake p = (s.ignored, true) := by
  unfold State.intake
  rw [show tagFields p = none from if_neg h]

/-- R32: with no Calendar, or no room for the lane order, an intake read is not taken. -/
theorem intake_waits {s : State} {p : List Byte} (hl : p.length = 25)
    (h : s.mgmt.calendar = none ∨ 4 ≤ s.dispatch.routes.length) : s.intake p = (s, false) := by
  unfold State.intake
  rw [show tagFields p = some _ from if_pos hl]
  dsimp only
  split
  · rfl
  · rw [if_pos (h.resolve_left ‹_›)]

section payload
variable {s : State} {field : List Byte} {maker model : Word16} {year tare : Nat} (hl : field.length = 17)
  (hy : year < 65536) (ht : tare < 65536) (hc : s.mgmt.calendar ≠ none) (hr : s.dispatch.routes.length < 4)
include hl hy ht hc hr

theorem intake_ignored (h : serialOf field = none ∨ year < 1950 ∨ 2099 < year) :
    s.intake (tagPayload field maker model year tare) = (s.ignored, true) := by
  unfold State.intake
  rw [tagFields_tagPayload hl maker model hy ht]
  dsimp only
  rw [if_neg hc, if_neg (by omega)]
  split
  case h_1 sr hs => rw [if_neg (by simp only [hs, reduceCtorEq, false_or] at h; omega)]
  case h_2 => rfl

/-- R33: an admitted intake read is looked up. -/
theorem intake_admitted {sr : List Byte} (hs : serialOf field = some sr) (h1 : 1950 ≤ year) (h2 : year ≤ 2099) :
    s.intake (tagPayload field maker model year tare) = (s.lookUp ⟨field, maker, model, year, tareOf tare⟩ sr, true) := by
  unfold State.intake
  rw [tagFields_tagPayload hl maker model hy ht]
  dsimp only
  rw [if_neg hc, if_neg (by omega), hs]
  exact if_pos ⟨h1, h2⟩

end payload

/-- R194: a TAG payload of any tare field reads the tare as its two bytes. -/
theorem tagPayload_mod (field : List Byte) (maker model : Word16) (year tare : Nat) :
    tagPayload field maker model year tare = tagPayload field maker model year (tare % 65536) := by
  have high : byteOf (tare % 65536 / 256) = byteOf (tare / 256) := byteOf_congr (by omega)
  have low : byteOf (tare % 65536) = byteOf tare := byteOf_congr (by omega)
  simp only [tagPayload, beBytes_two, high, low]

/-- Settles O38: the checks of `intake` in their order. -/
theorem intakeReadIsTurnedAway : Obligations.IntakeReadIsTurnedAway := by
  refine ⟨serialChar_iff, fun field sr hl => ⟨serialOf_eq_none_iff hl, fun x hx => ⟨?_, serialOf_good hx hl⟩, rfl, rfl,
    serialOf_serialField⟩, fun s h p hs => ?_⟩
  · simp only [serialOf] at hx
    split at hx
    case isTrue hc =>
      cases hx
      rw [serialCut, min_eq_left hc.2.1]
    case isFalse => cases hx
  · have cal : (s.heard h).mgmt.calendar = s.mgmt.calendar := by rw [heard_mgmt]
    have routes : (s.heard h).dispatch.routes = s.dispatch.routes := by rw [heard_dispatch]
    have intake {t : State} {taken : Bool} (hi : (s.heard h).intake p = (t, taken)) :
        exec (.intakeRead h p) s = .next (t.passOn (frameTo s h 1 p) taken) := by
      refine congrArg Host.Outcome.next ((arrive_intake hs).trans ?_)
      rw [hi]; rfl
    refine ⟨fun hl => intake (intake_length hl), fun hl hw => intake (intake_waits hl (by rwa [cal, routes])), ?_⟩
    intro field maker model year tare hp hf hy hc hr hbad
    refine intake ?_
    rw [hp, tagPayload_mod]
    exact intake_ignored hf hy (Nat.mod_lt _ (by decide)) (by rwa [cal]) (by rwa [routes]) hbad

/-! ## Opening (R31, R34, R39, R41) -/

theorem lowestFree_eq_some {s : State} {n : RecNo} (h : s.getRec n = none) (hm : ∀ m, m < n → s.getRec m ≠ none) :
    s.lowestFree = some n := by
  unfold State.lowestFree
  rw [find_finRange_eq_some]
  refine ⟨by simp [h], fun m hlt => ?_⟩
  rw [Option.isNone_eq_false_iff, Option.isSome_iff_ne_none]
  exact hm m hlt

theorem lowestFree_eq_none {s : State} (h : ∀ m, s.getRec m ≠ none) : s.lowestFree = none := by
  unfold State.lowestFree
  rw [List.find?_eq_none]
  intro m _
  simpa using h m

/-- R31: a fresh record opened in the number allocated. -/
theorem openFresh_allocated {s u : State} {n : RecNo} (t : TagFields) (sr : List Byte) (h : s.allocate = some (n, u)) :
    s.openFresh t sr = State.typeRec n (freshRecord t sr (u.records.openCount + 1))
      { u with records := { u.records with openCount := u.records.openCount + 1 } } := by
  unfold State.openFresh; rw [h]; rfl

theorem allocate_free {s : State} {n : RecNo} (h : s.lowestFree = some n) : s.allocate = some (n, s) := by
  unfold State.allocate; rw [h]

/-- R31: with every number held, the head of the Closed List is reclaimed. -/
theorem allocate_reclaims {s : State} {n : RecNo} {rest : List RecNo} (h : s.lowestFree = none)
    (hc : s.records.closed = n :: rest) : s.allocate = some (n, s.freeRec n) := by
  unfold State.allocate; rw [h, hc]

/-- R31: with every number held and none closed there is no space. -/
theorem openFresh_noSpace {s : State} (t : TagFields) (sr : List Byte) (h : s.lowestFree = none)
    (hc : s.records.closed = []) : s.openFresh t sr = (s.tally .noSpace).placeRoute ⟨sr, .hold, none⟩ := by
  unfold State.openFresh State.allocate; rw [h, hc]

/-- R43: a number freed leaves the Closed List. -/
theorem freeRec_eq (s : State) (n : RecNo) : s.freeRec n = { s with records :=
    ⟨s.records.table.set n.val none n.isLt, s.records.closed.filter fun m => m != n, s.records.openCount⟩ } := rfl

theorem getRec_freeRec_self (s : State) (n : RecNo) : (s.freeRec n).getRec n = none := getRec_putRec_self ..

theorem getRec_freeRec_ne (s : State) {n m : RecNo} (h : n ≠ m) : (s.freeRec n).getRec m = s.getRec m :=
  getRec_putRec_ne (s.unclose n) h none

/-- R137: a route entry placed while there is room. -/
theorem placeRoute_room {s : State} (e : RouteEntry) (h : s.dispatch.routes.length < 4) :
    s.placeRoute e = { s with dispatch := { s.dispatch with routes := s.dispatch.routes ++ [e] } } := by
  unfold State.placeRoute State.updDispatch; dsimp only; rw [if_pos h]

/-- R33: the lookup of a serial that no record holds. -/
theorem lookUp_lacks {s : State} {sr : List Byte} (t : TagFields) (h : s.Lacks sr) : s.lookUp t sr = s.openFresh t sr := by
  unfold State.lookUp; rw [findSerial_none h]

section holds
variable {s : State} {sr : List Byte} {n : RecNo} {r : Record} (t : TagFields) (h : s.Holds sr n r)
include h

/-- R33, R39: a record in HOLD or LOST is reopened. -/
theorem lookUp_reopens (hst : r.state = .hold ∨ r.state = .lost) : s.lookUp t sr = s.reopen n r t := by
  unfold State.lookUp
  rw [findSerial_of h]
  dsimp only
  rw [h.1]
  dsimp only
  rcases hst with hst | hst <;> rw [hst]

/-- R33, R40: a MARKED record is freed and the serial opened afresh. -/
theorem lookUp_reclaims (hst : r.state = .marked) : s.lookUp t sr = (s.freeRec n).openFresh t sr := by
  unfold State.lookUp
  rw [findSerial_of h]
  dsimp only
  rw [h.1]
  dsimp only
  rw [hst]

/-- R33, R41: a record in another state is a CLASH. -/
theorem lookUp_clashes (hh : r.state ≠ .hold) (hl : r.state ≠ .lost) (hm : r.state ≠ .marked) :
    s.lookUp t sr = s.clash n sr := by
  unfold State.lookUp
  rw [findSerial_of h]
  dsimp only
  rw [h.1]
  dsimp only
  cases hst : r.state
  case hold => exact absurd hst hh
  case lost => exact absurd hst hl
  case marked => exact absurd hst hm
  all_goals rfl

end holds

/-- Settles O39: the branches of `lookUp`, and of `allocate` for a fresh record. -/
theorem intakeReadOpensOrReopens : Obligations.IntakeReadOpensOrReopens := by
  intro s h field sr maker model year tare hl hsr h1 h2 htare p hs hc hr becomes seq fresh full clashed
  let t : TagFields := ⟨field, maker, model, year, tareOf tare⟩
  have cal : (s.heard h).mgmt.calendar = s.mgmt.calendar := by rw [heard_mgmt]
  have routes : (s.heard h).dispatch.routes = s.dispatch.routes := by rw [heard_dispatch]
  have records : (s.heard h).records = s.records := heard_records ..
  have recs (m : RecNo) : (s.heard h).getRec m = s.getRec m := heard_getRec ..
  have lacks (hk : s.Lacks sr) : (s.heard h).Lacks sr := fun m q hq => hk m q (recs m ▸ hq)
  have looked {u : State} (hu : (s.heard h).lookUp t sr = u) : becomes u := by
    refine congrArg Host.Outcome.next ((arrive_intake hs).trans ?_)
    rw [intake_admitted hl (by omega) htare (by rwa [cal]) (by rwa [routes]) hsr h1 h2, hu]
    rfl
  refine ⟨fun hk n hn hm => looked ?_, fun hk hf n rest hcl hn => looked ?_, fun hk hf hcl => looked ?_, fun n r hh =>
    ⟨fun hst => looked ?_, fun hst k hk hm => looked ?_, fun hhold hlost hmark => looked ?_⟩⟩
  · have free := lowestFree_eq_some (s := s.heard h) (recs n ▸ hn) fun m hlt => recs m ▸ hm m hlt
    rw [lookUp_lacks t (lacks hk), openFresh_allocated t sr (allocate_free free), records]
    rfl
  · have none := lowestFree_eq_none (s := s.heard h) fun m => recs m ▸ hf m
    have kept : s.records.closed.filter (fun m => m != n) = rest := by
      rw [hcl, List.filter_cons_of_neg (by simp), List.filter_eq_self]
      intro m hm
      simp only [bne_iff_ne, ne_eq]
      exact fun e => hn (e ▸ hm)
    rw [lookUp_lacks t (lacks hk), openFresh_allocated t sr (allocate_reclaims none (records ▸ hcl)), freeRec_eq, records, kept]
    rfl
  · have none := lowestFree_eq_none (s := s.heard h) fun m => recs m ▸ hf m
    rw [lookUp_lacks t (lacks hk), openFresh_noSpace t sr none (records ▸ hcl), placeRoute_room _ (by simpa [routes] using hr)]
  all_goals have holds : (s.heard h).Holds sr n r := ⟨recs n ▸ hh.1, hh.2.1, fun m q hq => hh.2.2 m q (recs m ▸ hq)⟩
  · rw [lookUp_reopens t holds hst]
    unfold State.reopen State.unclose State.raiseOpen State.updRecords
    simp only [records]
    obtain rfl := hh.2.1
    rfl
  · have free : ((s.heard h).freeRec n).lowestFree = some k := by
      refine lowestFree_eq_some ?_ fun m hlt => ?_
      · by_cases e : n = k
        · subst e; exact getRec_freeRec_self ..
        · rw [getRec_freeRec_ne _ e, recs]; exact hk.resolve_left (Ne.symm e)
      · rw [getRec_freeRec_ne _ (hm m hlt).1.symm, recs]; exact (hm m hlt).2
    rw [lookUp_reclaims t holds hst, openFresh_allocated t sr (allocate_free free), freeRec_eq, records]
    rfl
  · rw [lookUp_clashes t holds hhold hlost hmark, State.clash, modRec_some holds.1, placeRoute_room _ (by simpa [routes] using hr)]

/-! ## The type of an opened record (R35 to R38) -/

/-- R36, R37: the checks of an opened record, the Calendar known. -/
theorem typeRec_checks {s : State} {r : Record} {cal : Calendar} {k : BankId} {c : TypeCode} (n : RecNo)
    (hid : s.banks.activeId = k) (hcal : s.mgmt.calendar = some cal)
    (hc : (s.banks.get k).resolve r.maker r.model = some c) :
    s.typeRec n r =
      if cal.year < r.year then
        (s.putRec n (some { r with typeCode := some c, retestsLeft := (s.banks.get k).typeTable[c].retestLimit })).giveVerdict n
          (.hold .tagDate) false
      else if (s.banks.get k).typeTable[c].serviceLife ≠ 0
          ∧ (s.banks.get k).typeTable[c].serviceLife + r.year ≤ cal.year then
        (s.putRec n (some { r with typeCode := some c, retestsLeft := (s.banks.get k).typeTable[c].retestLimit })).giveVerdict n
          (.condemn .life) false
      else s.identify n { r with typeCode := some c, retestsLeft := (s.banks.get k).typeTable[c].retestLimit } := by
  unfold State.typeRec
  rw [hid]
  dsimp only
  rw [hc, hcal]
  simp [tooNew, pastLife]

/-- R38: a record enters IDENTIFIED, with a reference to the ACTIVE bank, and is routed to TEST. -/
theorem identify_eq {s : State} {k : BankId} (n : RecNo) (r : Record) (hid : s.banks.activeId = k)
    (hr : s.dispatch.routes.length < 4) : s.identify n r = { s with
      records := { s.records with
        table := s.records.table.set n.val (some { r with state := .identified, bank := some ⟨k, (s.banks.get k).gen⟩ }) n.isLt }
      banks := s.banks.set k { s.banks.get k with refs := (s.banks.get k).refs + 1 }
      dispatch := { s.dispatch with routes := s.dispatch.routes ++ [⟨r.serial, .test, some (n, r.openSeq)⟩] } } := by
  unfold State.identify State.routeRec
  rw [hid]
  simp only [getRec_updBanks, getRec_putRec_self]
  rw [placeRoute_room _ (by simpa using hr)]
  rfl

/-- Settles O40: the branches of `typeRec`. -/
theorem openedRecordIsTyped : Obligations.OpenedRecordIsTyped := by
  intro s n r k cal hk hk' hcal hr b
  have hid : s.banks.activeId = k := activeId_of hk hk'
  refine ⟨fun hn => ?_, fun c hc => ⟨fun hy => ?_, fun hy hl ho => ?_, fun hy ho => ?_⟩⟩
  · unfold State.typeRec
    rw [hid]
    dsimp only
    rw [show (s.banks.get k).resolve r.maker r.model = none from hn]
  all_goals have checks := typeRec_checks n hid hcal hc
  · exact checks.trans (if_pos hy)
  · have old : (s.banks.get k).typeTable[c].serviceLife + r.year ≤ cal.year := (Nat.le_sub_iff_add_le hy).mp ho
    exact checks.trans (by rw [if_neg hy.not_gt, if_pos ⟨hl, old⟩])
  · refine checks.trans ?_
    have young : ¬ (b.typeTable[c].serviceLife ≠ 0 ∧ b.typeTable[c].serviceLife + r.year ≤ cal.year) := by omega
    rw [if_neg hy.not_gt, if_neg young, identify_eq n _ hid hr]

/-! ## The evaluation of an inspection (R55, R56) -/

/-- R56: an early verdict is given. -/
theorem evaluate_verdict {s : State} {n : RecNo} {r : Record} {v : Verdict} (h : s.getRec n = some r)
    (hv : earlyVerdict (s.typeEntry r) r = some v) : s.evaluate n = s.giveVerdict n v false := by
  unfold State.evaluate
  rw [h]
  dsimp only
  rw [hv]

/-- R56: with no early verdict a record in IDENTIFIED enters INSPECTED. -/
theorem evaluate_clear {s : State} {n : RecNo} {r : Record} (h : s.getRec n = some r)
    (hv : earlyVerdict (s.typeEntry r) r = none) : s.evaluate n
      = if r.state = .identified then s.putRec n (some { r with state := .inspected }) else s := by
  unfold State.evaluate
  rw [h]
  dsimp only
  rw [hv, modRec_some h]

/-- Settles O42: the rows of `earlyVerdict` in their order. -/
theorem earlyVerdictByTheTable : Obligations.EarlyVerdictByTheTable := by
  refine ⟨fun s r b c hb hc => ⟨?_, rfl, rfl⟩, fun s n r h => ?_⟩
  · unfold State.typeEntry
    rw [hb, hc]
    dsimp only
    cases b.bank <;> rfl
  · intro e one two three four
    have rows : earlyVerdict e r = if one then some (.condemn .finding) else if two then some (.condemn .weightLoss)
        else if three then some (.hold .finding) else if four then some (.hold .noTare) else none := by
      unfold earlyVerdict
      simp only [condemnFound_iff, holdFound_iff]
      rfl
    refine ⟨fun h1 => evaluate_verdict h ?_, fun h1 h2 => evaluate_verdict h ?_, fun h1 h2 h3 => evaluate_verdict h ?_,
      fun h1 h2 h3 h4 => evaluate_verdict h ?_, fun h1 h2 h3 h4 hst => (evaluate_clear h ?_).trans (if_pos hst),
      fun h1 h2 h3 h4 hst => (evaluate_clear h ?_).trans (if_neg hst)⟩ <;> refine rows.trans ?_
    · exact if_pos h1
    · rw [if_neg h1, if_pos h2]
    · rw [if_neg h1, if_neg h2, if_pos h3]
    · rw [if_neg h1, if_neg h2, if_neg h3, if_pos h4]
    · rw [if_neg h1, if_neg h2, if_neg h3, if_neg h4]
    · rw [if_neg h1, if_neg h2, if_neg h3, if_neg h4]

/-! ## FINDING frames (R48 to R51, R58, R59) -/

theorem findingFrame_ignored {s : State} {p : List Byte} (h : ∀ f, findingFields p = some f → serialOf f.field = none
    ∨ ∃ sr, serialOf f.field = some sr ∧ s.Lacks sr) : s.findingFrame p = (s.ignored, true) := by
  unfold State.findingFrame
  cases hf : findingFields p with
  | none => rfl
  | some f =>
    dsimp only
    rcases h f hf with hn | ⟨sr, hs, hk⟩
    · rw [hn]
    · rw [hs]
      dsimp only
      rw [findSerial_none hk]

theorem findingFrame_named {s : State} {p : List Byte} {f : FindingFields} {sr : List Byte} {n : RecNo} {r : Record}
    (hf : findingFields p = some f) (hs : serialOf f.field = some sr) (h : s.Holds sr n r) :
    s.findingFrame p = s.findingFor n r f := by
  unfold State.findingFrame
  rw [hf]
  dsimp only
  rw [hs]
  dsimp only
  rw [findSerial_of h]
  dsimp only
  rw [h.1]

/-- R51: a FINDING changes neither the state of its record nor the type it is judged by. -/
theorem applyFinding_kept (f : FindingFields) (limit : Nat) (r : Record) :
    (applyFinding f limit r).bank = r.bank ∧ (applyFinding f limit r).typeCode = r.typeCode := by
  unfold applyFinding; split <;> exact ⟨rfl, rfl⟩

/-- R55: the close test of a record that holds no open item is its evaluation. -/
theorem closeTest_of {s : State} {n : RecNo} {r : Record} (h : s.getRec n = some r) :
    s.closeTest n = if (s.typeEntry r).required &&& ~~~r.items = 0 then s.evaluate n else s := by
  unfold State.closeTest
  rw [h]
  simp [inspectionComplete]

section findingFor
variable {s : State} {n : RecNo} {r : Record} (f : FindingFields)

/-- R58: of a record ON TEST a FINDING is applied, and nothing more. -/
theorem findingFor_onTest (h : r.state = .onTest) :
    s.findingFor n r f = (s.modRec n (applyFinding f (s.typeEntry r).tareLossLimit), true) := by
  unfold State.findingFor; rw [h]

/-- R51: no FINDING is taken while a place in the Route FIFO might be wanted and none is free. -/
theorem findingFor_waits (h : r.state = .identified ∨ r.state = .inspected ∨ r.state = .retestWait)
    (hf : 4 ≤ s.dispatch.routes.length) : s.findingFor n r f = (s, false) := by
  unfold State.findingFor
  rcases h with h | h | h <;> rw [h] <;> exact if_pos (decide_eq_true hf)

theorem findingFor_identified (h : r.state = .identified) (hf : ¬ 4 ≤ s.dispatch.routes.length) :
    s.findingFor n r f = ((s.modRec n (applyFinding f (s.typeEntry r).tareLossLimit)).closeTest n, true) := by
  unfold State.findingFor
  rw [h]
  exact if_neg (mt of_decide_eq_true hf)

theorem findingFor_evaluates (h : r.state = .inspected ∨ r.state = .retestWait) (hf : ¬ 4 ≤ s.dispatch.routes.length) :
    s.findingFor n r f = ((s.modRec n (applyFinding f (s.typeEntry r).tareLossLimit)).evaluate n, true) := by
  unfold State.findingFor
  rcases h with h | h <;> rw [h] <;> exact if_neg (mt of_decide_eq_true hf)

/-- R59: of a record in any other state a FINDING is late. -/
theorem findingFor_late (h : r.state = .markPending ∨ r.state = .atPress ∨ r.state = .scrapPending
    ∨ r.state = .atScrapCell ∨ r.state = .hold ∨ r.state = .marked ∨ r.state = .scrapped ∨ r.state = .lost) :
    s.findingFor n r f = (s.tally .lateFindings, true) := by
  unfold State.findingFor
  rcases h with h | h | h | h | h | h | h | h <;> rw [h]

end findingFor

/-- Settles O43: by the state of the record that holds the serial. -/
theorem findingIsApplied : Obligations.FindingIsApplied := by
  intro s h p hs becomes
  have handled {t : State} {taken : Bool} (hf : (s.heard h).findingFrame p = (t, taken)) :
      exec (.finding h p) s = .next (t.passOn (frameTo s h 2 p) taken) := by
    refine congrArg Host.Outcome.next ((arrive_finding hs).trans ?_)
    rw [hf]; rfl
  have recs (m : RecNo) : (s.heard h).getRec m = s.getRec m := heard_getRec ..
  have routes : (s.heard h).dispatch.routes = s.dispatch.routes := by rw [heard_dispatch]
  refine ⟨fun hl => handled (findingFrame_ignored fun f hf => ?_), fun field items sets clears tare hp hl ht =>
    ⟨fun hbad => handled (findingFrame_ignored fun f hf => ?_), fun sr n r hsr hh => ?_⟩⟩
  · rw [show findingFields p = none from if_neg hl] at hf; cases hf
  · rw [hp, findingFields_findingPayload hl items sets clears ht] at hf
    cases hf
    exact hbad.imp_right fun ⟨sr, h1, hk⟩ => ⟨sr, h1, fun m q hq => hk m q (recs m ▸ hq)⟩
  · intro e r1 r2 applied full
    have fields : findingFields p = some ⟨field, items, sets, clears, tareOf tare⟩ :=
      hp ▸ findingFields_findingPayload hl items sets clears ht
    have holds : (s.heard h).Holds sr n r := ⟨recs n ▸ hh.1, hh.2.1, fun m q hq => hh.2.2 m q (recs m ▸ hq)⟩
    have finding : applyFinding ⟨field, items, sets, clears, tareOf tare⟩ e.tareLossLimit r = r2 := by
      unfold applyFinding tareOf
      by_cases hrange : 1 ≤ tare ∧ tare ≤ 20000 <;> simp [r2, r1, hrange]
    have changed : (s.heard h).modRec n (applyFinding ⟨field, items, sets, clears, tareOf tare⟩ e.tareLossLimit) = applied := by
      rw [modRec_some holds.1, finding]
    have found : (s.heard h).findingFrame p = (s.heard h).findingFor n r ⟨field, items, sets, clears, tareOf tare⟩ :=
      findingFrame_named fields hsr holds
    have judge : applyFinding ⟨field, items, sets, clears, tareOf tare⟩ (((s.heard h).typeEntry r).tareLossLimit)
        = applyFinding ⟨field, items, sets, clears, tareOf tare⟩ e.tareLossLimit := by rw [heard_typeEntry]
    have close : applied.closeTest n = if e.required &&& ~~~r2.items = 0 then applied.evaluate n else applied := by
      rw [closeTest_of (r := r2) (getRec_putRec_self ..)]
      have entry : applied.typeEntry r2 = e := by
        rw [typeEntry_putRec, heard_typeEntry, ← finding]
        exact typeEntry_congr s (applyFinding_kept ..).1 (applyFinding_kept ..).2
      rw [entry]
    refine ⟨fun hst => handled ?_, fun hst hf => handled ?_, fun hst hf hi => handled ?_, fun hst hf hi => handled ?_,
      fun hst hf => handled ?_, fun hst => handled ?_⟩ <;> rw [found]
    · rw [findingFor_onTest _ hst, judge, changed]
    · exact findingFor_waits _ hst (routes ▸ hf)
    · rw [findingFor_identified _ hst (routes ▸ hf), judge, changed, close, if_neg hi]
    · rw [findingFor_identified _ hst (routes ▸ hf), judge, changed, close, if_pos hi]
    · rw [findingFor_evaluates _ hst (routes ▸ hf), judge, changed]
    · exact findingFor_late _ hst

end Sys2Proof.Machine
end


section
/-!
PROOFS. The expansions and their ranges (R115 to R118).
-/

namespace Sys2Proof.Machine

/-- The range of a corrected rise: 65534 of level and 159945 of correction. -/
theorem correctedRise_natAbs_le {k : Nat} {zero later : Reading} (hk : k ≤ 4095) (hz : zero.level ≤ 65534 ∧ zero.temp ≤ 9999)
    (hl : later.level ≤ 65534 ∧ later.temp ≤ 9999) : (correctedRise k zero later).natAbs ≤ 225479 := by
  have product : k * ((later.temp : Int) - zero.temp).natAbs ≤ 40945905 := product_natAbs_le hk (by omega)
  have magnitude := correction_natAbs k ((later.temp : Int) - zero.temp)
  unfold correctedRise
  omega

/-- R117: the permanent ratio of a part of a whole. -/
theorem permille_of_part {part whole : Nat} (hw : 0 < whole) (h : part ≤ whole) :
    part * 1000 / whole ≤ 1000 ∧ (part * 1000 / whole = 1000 ↔ part = whole) := by
  have most : part * 1000 / whole ≤ 1000 := Nat.div_le_of_le_mul (Nat.mul_le_mul_right _ h)
  refine ⟨most, fun e => ?_, fun e => ?_⟩
  · have := (Nat.le_div_iff_mul_le hw).mp e.ge
    omega
  · rw [e, Nat.mul_div_cancel_left _ hw]

/-- R116: the elastic expansion is the rest of the total. -/
theorem permanentOf_elastic {et raw : Int} (h : 1 ≤ et) :
    ((permanentOf et raw).2.ep : Int) + (permanentOf et raw).2.elastic = et := by
  unfold permanentOf
  dsimp only
  split_ifs <;> omega

theorem permanentOf_ratio (et raw : Int) :
    (permanentOf et raw).2.ratio = (permanentOf et raw).2.ep * 1000 / et.toNat := rfl

/-- Settles O45: `expansionOf` by its two cases, the permanent figures by where the raw permanent lies. -/
theorem expansionFigures : Obligations.ExpansionFigures := by
  intro k zero total settled hk range et raw x
  have inRange {y : Reading} (hy : y ∈ [zero, total, settled]) := range y hy
  have hz := inRange (y := zero) (by simp)
  refine ⟨expansionOf_et .., correctedRise_natAbs_le hk hz (inRange (y := total) (by simp)),
    correctedRise_natAbs_le hk hz (inRange (y := settled) (by simp)), fun h => ?_, fun h => ?_⟩
  · have none := expansionOf_of_le (k := k) (zero := zero) (total := total) h settled
    exact ⟨congrArg (·.perm) none, congrArg (·.flags) none⟩
  · have formed := expansionOf_of_pos (k := k) (zero := zero) (total := total) (show 0 < et by omega) settled
    have flags : x.flags = ⟨decide (raw < 0), decide (et < raw)⟩ := congrArg (·.flags) formed
    have ep : ((permanentOf et raw).2.ep : Int) = max 0 (min et raw) := permanentOf_ep ..
    have whole : (et.toNat : Int) = et := Int.toNat_of_nonneg (by omega)
    obtain ⟨most, all⟩ := permille_of_part (part := (permanentOf et raw).2.ep) (whole := et.toNat) (by omega) (by omega)
    refine ⟨(permanentOf et raw).2, congrArg (·.perm) formed, permanentOf_elastic h, by omega, permanentOf_ratio .., most,
      all.trans (by omega), fun h0 => ?_, fun hr => ⟨by omega, ?_⟩, fun hr hle => ⟨by omega, ?_⟩, fun hr => ⟨by omega, ?_⟩⟩
    · rw [permanentOf_ratio, h0, Nat.zero_mul, Nat.zero_div]
    · rw [flags, decide_eq_true hr, decide_eq_false (by omega)]
    · rw [flags, decide_eq_false (by omega), decide_eq_false (by omega)]
    · rw [flags, decide_eq_false (by omega), decide_eq_true hr]

end Sys2Proof.Machine
end


section
/-!
PROOFS. LINE RESET (R19, R44, R84, R155, R189).
-/

namespace Sys2Proof.Machine

/-! ## A station at a line reset (R84) -/

section station
variable {st : Station}

theorem Station.lineReset_watched (h : st.state.watched = true) : st.lineReset = st.resynced := if_pos h

theorem Station.lineReset_vacant (h : st.state = .vacant) : st.lineReset = { st with sealPending := false } := by
  unfold Station.lineReset
  rw [if_neg (by rw [h]; decide), if_pos h]

theorem Station.lineReset_kept (h : st.state = .faulted ∨ st.state = .outOfService ∨ st.state = .resync) :
    st.lineReset = st := by
  unfold Station.lineReset
  rcases h with h | h | h <;> rw [if_neg (by rw [h]; decide), if_neg (by rw [h]; decide)]

theorem Station.lineReset_cfg (st : Station) : st.lineReset.cfg = st.cfg := by
  unfold Station.lineReset
  split
  case isTrue => rfl
  case isFalse => split <;> rfl

theorem Station.lineReset_resync : st.lineReset.state = .resync ↔ st.state.watched = true ∨ st.state = .resync := by
  by_cases hw : st.state.watched = true
  · rw [Station.lineReset_watched hw]
    exact iff_of_true rfl (.inl hw)
  · unfold Station.lineReset
    rw [if_neg hw]
    split
    case isTrue hv => simp [hv, StState.watched, StState.inCycle]
    case isFalse => simp [hw]

theorem Station.lineReset_abortFrame (i : StationNo) (st : Station) : st.lineReset.abortFrame i = st.abortFrame i := by
  unfold Station.abortFrame
  rw [Station.lineReset_cfg]

end station

/-! ## The Ring Port at a line reset (R155, R173) -/

/-- R155: the slots of the dispatchers' sources emptied. -/
def RingPort.dispatchSlotsEmptied (p : RingPort) : RingPort := ((p.emptySlot .mark).emptySlot .scrap).emptySlot .route

theorem source_emptySlot (p : RingPort) (k j : Src) :
    (p.emptySlot k).source j = if k = j then ⟨(p.source j).cond, none⟩ else p.source j := by
  split
  case isTrue h => subst h; exact source_setSource_self ..
  case isFalse h => exact source_setSource_ne p h _

theorem source_dispatchSlotsEmptied (p : RingPort) {k : Src} (h : k ∈ [Src.mark, Src.scrap, Src.route]) :
    p.dispatchSlotsEmptied.source k = ⟨(p.source k).cond, none⟩ := by
  simp only [List.mem_cons, List.not_mem_nil, or_false] at h
  rcases h with rfl | rfl | rfl <;> simp [RingPort.dispatchSlotsEmptied, source_emptySlot]

theorem source_dispatchSlotsEmptied_kept (p : RingPort) {k : Src} (hm : k ≠ .mark) (hs : k ≠ .scrap) (hr : k ≠ .route) :
    p.dispatchSlotsEmptied.source k = p.source k := by
  unfold RingPort.dispatchSlotsEmptied
  rw [source_emptySlot, if_neg hr.symm, source_emptySlot, if_neg hs.symm, source_emptySlot, if_neg hm.symm]

/-! ## The request -/

/-- R189: the ABORTs alone reach past the line-reset rule of each block. -/
theorem lineReset_eq (s : State) : s.lineReset = { s with
    banks := ⟨s.banks.a.lineReset, s.banks.b.lineReset⟩
    records := s.records.lineReset
    stations := s.stations.map Station.lineReset
    dispatch := s.dispatch.lineReset s.port
    port := s.port.dispatchSlotsEmptied.aborts (fun i => (s.station i).lineReset) (List.finRange 8) } := by
  have stations : State.station { s with stations := s.stations.map Station.lineReset } = fun i => (s.station i).lineReset := by
    funext i; simp [State.station]
  unfold State.lineReset
  rw [abortResync_eq]
  exact congrArg (fun f => { s with
    banks := ⟨s.banks.a.lineReset, s.banks.b.lineReset⟩
    records := s.records.lineReset
    stations := s.stations.map Station.lineReset
    dispatch := s.dispatch.lineReset s.port
    port := s.port.dispatchSlotsEmptied.aborts f (List.finRange 8) : State }) stations

theorem lineReset_station (s : State) (i : StationNo) : s.lineReset.station i = (s.station i).lineReset := by
  rw [lineReset_eq]
  simp [State.station]

theorem lineReset_bank (s : State) (k : BankId) : s.lineReset.banks.get k = (s.banks.get k).lineReset := by
  rw [lineReset_eq]
  cases k <;> rfl

theorem lineReset_getRec (s : State) (n : RecNo) : s.lineReset.getRec n = none := by
  rw [lineReset_eq]
  simp [State.getRec, RecordTable.lineReset]

/-- Settles O36: each block by its own line-reset rule, the Ring Port by the ABORTs of the stations in RESYNC. -/
theorem lineResetEmptiesTheLine : Obligations.LineResetEmptiesTheLine := by
  intro s h tag hs
  have up : (s.heard h).port.monitor = .up := by rw [heard_port]; exact hs.1.2.1
  let after (i : StationNo) : Station := (s.station i).lineReset
  let start : RingPort := (s.heard h).port.dispatchSlotsEmptied
  have sources (k : Src) : (s.heard h).port.source k = s.port.source k := by rw [heard_port]; rfl
  have port : (s.heard h).lineReset.port = start.aborts after (List.finRange 8) := by
    rw [lineReset_eq]
    simp only [heard_station]
    rfl
  have stationSource (i : StationNo) : start.source (.station i) = s.port.source (.station i) :=
    (source_dispatchSlotsEmptied_kept _ (k := .station i) nofun nofun nofun).trans (sources _)
  have startQueue : start.queue = s.port.queue := (congrArg RingPort.queue (heard_port h s) :)
  have notStation {k : Src} (hk : ∀ i, k ≠ .station i) : (s.heard h).lineReset.port.source k = start.source k := by
    rw [port]
    exact source_aborts_ne fun i _ e => absurd e (hk i)
  have frame (i : StationNo) : (after i).abortFrame i = (s.station i).abortFrame i := Station.lineReset_abortFrame ..
  have queue : (s.heard h).lineReset.port.queue = s.port.queue ++ (List.finRange 8).filterMap fun i =>
      if (after i).state = .resync ∧ (s.port.source (.station i)).cond = .free then some ((s.station i).abortFrame i)
      else none := by
    rw [port, queue_aborts (List.nodup_finRange 8)]
    simp only [stationSource, frame, startQueue]
  refine ⟨(s.heard h).lineReset, serves_done hs 0 rfl rfl (by decide) rfl, lineReset_getRec _, ?_, ?_, fun k => ?_, fun i =>
    ⟨fun hw => ?_, fun hv => ?_, fun hk => ?_, fun hr => ?_, fun hk => ?_⟩, ⟨_, queue, fun q hq => ?_⟩, ?_, fun k hk => ?_,
    fun k hk => ?_, ?_, ?_⟩
  · rw [lineReset_eq]; rfl
  · rw [lineReset_eq, heard_records]; rfl
  · rw [lineReset_bank, heard_banks]; rfl
  · rw [lineReset_station, heard_station, Station.lineReset_watched hw]; rfl
  · rw [lineReset_station, heard_station, Station.lineReset_vacant hv]
  · rw [lineReset_station, heard_station, Station.lineReset_kept hk]
  · have resync := Station.lineReset_resync.mpr hr
    split
    case isTrue hf =>
      rw [queue]
      refine List.mem_append_right _ (List.mem_filterMap.mpr ⟨i, List.mem_finRange i, ?_⟩)
      exact if_pos ⟨resync, hf⟩
    case isFalse hf =>
      rw [port, source_aborts_self (p := start) up (List.nodup_finRange 8) (List.mem_finRange i) resync, stationSource, if_neg hf, frame]
      rfl
  · rw [port, source_aborts_ne fun j _ e => ?_, stationSource]
    cases e
    rw [Ne, Station.lineReset_resync]
    rcases hk with hk | hk | hk <;> rw [hk] <;> decide
  · obtain ⟨i, -, hi⟩ := List.mem_filterMap.mp hq
    split at hi
    case isTrue hc => exact ⟨i, (Option.some.inj hi).symm, Station.lineReset_resync.mp hc.1⟩
    case isFalse => cases hi
  · rw [lineReset_eq]
    simp only [DispatchUnit.lineReset, RingPort.busy, sources, heard_dispatch]
  · simp only [List.mem_cons, List.not_mem_nil, or_false] at hk
    rw [notStation (by rcases hk with rfl | rfl | rfl <;> nofun), source_dispatchSlotsEmptied _ (by simpa using hk), sources]
  · simp only [List.mem_cons, List.not_mem_nil, or_false] at hk
    rw [notStation (by rcases hk with rfl | rfl <;> nofun)]
    refine (source_dispatchSlotsEmptied_kept _ ?_ ?_ ?_).trans (sources k) <;> rcases hk with rfl | rfl <;> nofun
  · rw [port, aborts_eq, lineReset_eq]
    simp [start, RingPort.dispatchSlotsEmptied, RingPort.emptySlot, RingPort.setSource]
  · rw [port, aborts_eq, lineReset_eq]
    simp [start, RingPort.dispatchSlotsEmptied, RingPort.emptySlot, RingPort.setSource]

end Sys2Proof.Machine
end


section
/-!
PROOFS. Stations: orders, the end of a test (R73, R74), the supervision scan (R68) and the phase deadlines (R94 to R109).
-/

namespace Sys2Proof.Machine

/-! ## What an applied verdict and an ended test leave -/

/-- Nothing outside the records, the banks, the stations, the Dispatch Unit, the notices and the tallies differs. -/
structure State.SameLine (s t : State) : Prop where
  clock : t.clock = s.clock
  port : t.port = s.port
  roles : t.roles = s.roles
  cuts : t.cuts = s.cuts
  pending : t.pending = s.pending
  mgmt : (t.mgmt.store, t.mgmt.storeSound, t.mgmt.latched, t.mgmt.calendar, t.mgmt.responder)
    = (s.mgmt.store, s.mgmt.storeSound, s.mgmt.latched, s.mgmt.calendar, s.mgmt.responder)

namespace State.SameLine
variable {s t : State}

theorem refl (s : State) : s.SameLine s := ⟨rfl, rfl, rfl, rfl, rfl, rfl⟩

theorem offerNotice (h : s.SameLine t) (x : Notice) : s.SameLine (t.offerNotice x) := by
  unfold State.offerNotice
  split <;> exact ⟨h.clock, h.port, h.roles, h.cuts, h.pending, h.mgmt⟩

theorem tally (h : s.SameLine t) (x : Tally) : s.SameLine (t.tally x) :=
  ⟨h.clock, h.port, h.roles, h.cuts, h.pending, h.mgmt⟩

theorem modRec (h : s.SameLine t) (n : RecNo) (f : Record → Record) : s.SameLine (t.modRec n f) := by
  unfold State.modRec; split <;> exact ⟨h.clock, h.port, h.roles, h.cuts, h.pending, h.mgmt⟩

theorem updStation (h : s.SameLine t) (i : StationNo) (f : Station → Station) : s.SameLine (t.updStation i f) :=
  ⟨h.clock, h.port, h.roles, h.cuts, h.pending, h.mgmt⟩

/-- R27, R136: a verdict applied. -/
theorem giveVerdict (s : State) (n : RecNo) (v : Verdict) (figures : Bool) : s.SameLine (s.giveVerdict n v figures) := by
  cases h : s.getRec n with
  | none =>
    have same : s.giveVerdict n v figures = s := by simp [State.giveVerdict, h]
    rw [same]; exact refl s
  | some r =>
    obtain ⟨x, k, d, he, -⟩ := giveVerdict_disposed h v figures
    rw [he]
    have disposed : s.SameLine (s.disposed n x k d) := ⟨rfl, rfl, rfl, rfl, rfl, rfl⟩
    exact (disposed.offerNotice _).tally _

theorem concludeTest (s : State) (i : StationNo) (how : TestEnd) : s.SameLine (s.concludeTest i how) := by
  unfold State.concludeTest State.unlink
  split
  · exact (giveVerdict ..).updStation i _
  · exact (refl s).updStation i _

theorem endTest (s : State) (i : StationNo) (why : Reason) : s.SameLine (s.endTest i why) := by
  unfold State.endTest
  split
  · split
    · exact ((refl s).modRec _ _).updStation i _
    · exact refl s
  · exact concludeTest ..

end State.SameLine

theorem station_modRec (s : State) (n : RecNo) (f : Record → Record) (i : StationNo) :
    (s.modRec n f).station i = s.station i := by
  unfold State.modRec; split <;> rfl

/-- A test ended at one station leaves the others. -/
theorem station_endTest_ne (s : State) {i j : StationNo} (h : i ≠ j) (why : Reason) :
    (s.endTest i why).station j = s.station j := by
  unfold State.endTest State.concludeTest State.unlink
  split
  all_goals split
  · rw [station_updStation_ne _ h, station_modRec]
  · rfl
  · rw [station_updStation_ne _ h, giveVerdict_station]
  · rw [station_updStation_ne _ h]

/-! ## The ends of a test (R73) -/

section tests
variable {s : State} {i : StationNo} {n : RecNo} {r : Record} (ht : s.Tests i n r)
include ht

theorem concludeTest_of (how : TestEnd) : s.concludeTest i how
    = (s.giveVerdict n (verdictOrder (s.typeEntry r) r how) (decide ((s.station i).state ≠ .seated))).unlink i := by
  unfold State.concludeTest
  rw [testRec_of ht]

/-- R26: in SEATED the record returns to the state it left. -/
theorem endTest_seated (why : Reason) (h : (s.station i).state = .seated) :
    s.endTest i why = (s.putRec n (some (returned why r))).unlink i := by
  unfold State.endTest
  rw [if_pos h, ht.1]
  dsimp only
  rw [modRec_some ht.2]

/-- R119: later a verdict of the verdict order is given. -/
theorem endTest_later (why : Reason) (h : (s.station i).state ≠ .seated) : s.endTest i why = (s.giveVerdict n
    (if r.findings &&& (s.typeEntry r).condemnMask ≠ 0 then .condemn .finding else .retest why) true).unlink i := by
  unfold State.endTest
  rw [if_neg h, concludeTest_of ht, decide_eq_true h]
  unfold verdictOrder
  simp only [condemnFound_iff]

end tests

theorem concludeTest_none {s : State} {i : StationNo} (how : TestEnd) (h : (s.station i).record = none) :
    s.concludeTest i how = s := by
  have unlinked : s.unlink i = s := updStation_self s i _ (by rw [← h])
  simp [State.concludeTest, State.testRec, h, unlinked]

/-! ## The station's side of an end (R74, R80, R105, R109) -/

/-- R105, R109: an order that releases the cylinder. -/
theorem releaseWith_eq (s : State) (i : StationNo) (o : Order) :
    s.releaseWith i o = (s.offer (.station i) (s.station i).cfg.addr (.order o)).updStation i fun st => { st with
      state := .releasing, record := none, deadline := some (s.clock + 60000), extensionEnd := none
      aborted := false, sealPending := false } := rfl

theorem ventAborted_eq (s : State) (i : StationNo) (e : TypeEntry) :
    s.ventAborted i e = (s.offer (.station i) (s.station i).cfg.addr (.order .vent)).updStation i fun st => { st with
      state := .venting, aborted := true, extensionEnd := none
      deadline := some (s.clock + BitVec.ofNat 32 (e.ventTimeout * 1000)) } := rfl

/-- R68, R80, R106, R109: a station faulted, with an ABORT offered. -/
theorem faulted_abort_eq (s : State) (i : StationNo) : (s.enterFaulted i).orderStation i .abort
    = (s.updStation i Station.faulted).offer (.station i) (s.station i).cfg.addr (.order .abort) := by
  unfold State.orderStation State.enterFaulted
  rw [station_updStation_self]
  rfl

/-- R68, R106: a test ended and its station faulted, with an ABORT offered. -/
theorem endTest_faulted_abort (s : State) (i : StationNo) (why : Reason) :
    ((s.endTest i why).enterFaulted i).orderStation i .abort = ((s.endTest i why).updStation i Station.faulted).offer (.station i)
      (s.station i).cfg.addr (.order .abort) := by
  rw [faulted_abort_eq, station_endTest]

section abortPath
variable {s : State} {i : StationNo} (e : TypeEntry)

theorem abortPath_releases (h : (s.station i).state = .seated ∨ (s.station i).state = .settling) :
    s.abortPath i e = s.releaseWith i .release := by
  unfold State.abortPath; rcases h with h | h <;> rw [h]

theorem abortPath_vents (h : (s.station i).state = .ramping ∨ (s.station i).state = .holding) :
    s.abortPath i e = s.ventAborted i e := by
  unfold State.abortPath; rcases h with h | h <;> rw [h]

theorem abortPath_venting (h : (s.station i).state = .venting) :
    s.abortPath i e = s.updStation i fun st => { st with aborted := true } := by
  unfold State.abortPath; rw [h]

theorem abortPath_outside (h : (s.station i).state.inCycle = false) : s.abortPath i e = s := by
  unfold State.abortPath
  cases hst : (s.station i).state <;> simp [hst, StState.inCycle] at h ⊢

end abortPath

/-- Settles O48: the record's side by `endTest_seated` and `endTest_later`, the station's side by `abortPath`. -/
theorem testEndsEarly : Obligations.TestEndsEarly := by
  refine ⟨rfl, fun s i why how hn => ?_, fun s i n r why how ht => ?_⟩
  · have abort : s.abortTest i why = s.abortPath i (s.testEntry i) := by
      unfold State.abortTest; rw [endTest_none why hn]
    exact ⟨concludeTest_none how hn, endTest_none why hn, fun h => abort.trans (abortPath_venting _ h),
      fun h => abort.trans (abortPath_outside _ h)⟩
  · intro st e order unlinked
    have state : ((s.endTest i why).station i).state = st.state := by rw [station_endTest]
    have addr : ((s.endTest i why).station i).cfg.addr = st.cfg.addr := by rw [station_endTest]
    have clock : (s.endTest i why).clock = s.clock := (State.SameLine.endTest s i why).clock
    have abort : s.abortTest i why = (s.endTest i why).abortPath i e := by
      unfold State.abortTest; rw [testEntry_of ht]
    refine ⟨concludeTest_of ht how, fun h f hf => ?_, fun h => endTest_later ht why h, fun h => abort.trans ?_,
      fun h => abort.trans ?_, fun h => abort.trans (abortPath_venting _ (state.trans h))⟩
    · rw [endTest_seated ht why h, returned, hf]
      rfl
    · rw [abortPath_releases _ (state ▸ h), releaseWith_eq, addr, clock]
    · rw [abortPath_vents _ (state ▸ h), ventAborted_eq, addr, clock]

/-! ## The supervision scan (R68) -/

theorem isSilent_iff (s : State) (i : StationNo) : s.isSilent i = true ↔ (s.station i).state.watched = true
    ∧ (s.station i).cfg.silence * 1000 < (s.clock - (s.station i).lastFrame).toNat := by
  simp [State.isSilent]

theorem declareSilent_eq (s : State) (i : StationNo) : s.declareSilent i
    = ((s.endTest i .silent).updStation i Station.faulted).offer (.station i) (s.station i).cfg.addr (.order .abort) :=
  endTest_faulted_abort ..

theorem station_endEvent (s : State) (j : StationNo) : s.endEvent.station j = s.station j := by rw [endEvent_eq]; rfl

theorem station_silenced (s : State) (i j : StationNo) : ((s.declareSilent i).endEvent).station j
    = if i = j then (s.station j).faulted else s.station j := by
  rw [station_endEvent, declareSilent_eq, station_offer]
  split
  case isTrue h =>
    subst h
    rw [station_updStation_self, station_endTest]
    rfl
  case isFalse h => rw [station_updStation_ne _ h, station_endTest_ne _ h]

theorem clock_silenced (s : State) (i : StationNo) : (s.declareSilent i).endEvent.clock = s.clock := by
  rw [endEvent_eq, declareSilent_eq]
  exact (State.SameLine.endTest s i .silent).clock

/-- R68: the scan over a list of stations. -/
def State.scanOver (l : List StationNo) (s : State) : State :=
  l.foldl (fun s i => if s.isSilent i then (s.declareSilent i).endEvent else s) s

/-- R68: a station in the list is faulted exactly when it was silent, and the rest stay. -/
theorem station_scanOver {l : List StationNo} (hl : l.Nodup) (s : State) (j : StationNo) :
    (s.scanOver l).station j = if j ∈ l ∧ s.isSilent j = true then (s.station j).faulted else s.station j := by
  unfold State.scanOver
  induction l generalizing s with
  | nil => rw [if_neg (fun h => by cases h.1)]; rfl
  | cons i l ih =>
    obtain ⟨hi, hl⟩ := List.nodup_cons.mp hl
    rw [List.foldl_cons, ih hl]
    by_cases hs : s.isSilent i = true
    · rw [if_pos hs, station_silenced]
      rcases eq_or_ne i j with rfl | hij
      · simp [hi, hs]
      · have same : (s.declareSilent i).endEvent.isSilent j = s.isSilent j := by
          unfold State.isSilent; rw [station_silenced, if_neg hij, clock_silenced]
        simp [same, hij, hij.symm]
    · rw [if_neg hs]
      rcases eq_or_ne i j with rfl | hij
      · simp [hi, hs]
      · simp [hij.symm]

/-- Settles O52: the scan is a fold over the stations, each of which it faults by its own silence alone. -/
theorem scanFindsTheSilent : Obligations.ScanFindsTheSilent := by
  refine ⟨fun st => by cases st <;> decide, fun s => ?_⟩
  intro silent
  have scans (h : s.clock.toNat % 1024 = 512) : exec .supervisionScan s = .next s.scan := congrArg Host.Outcome.next (if_pos h)
  refine ⟨fun h => congrArg Host.Outcome.next (if_neg h), fun h => (scans h).trans (congrArg Host.Outcome.next ?_),
    fun h t ht i => ?_⟩
  · unfold State.scan
    congr 1
    funext t i
    refine if_congr (isSilent_iff t i) ?_ rfl
    rw [declareSilent_eq]
    rfl
  · have scanned : s.scan = t := Host.Outcome.next.inj ((scans h).symm.trans ht)
    have station : t.station i = if s.isSilent i = true then (s.station i).faulted else s.station i := by
      rw [← scanned]
      refine (station_scanOver (List.nodup_finRange 8) s i).trans (if_congr ?_ rfl rfl)
      exact and_iff_right (List.mem_finRange i)
    refine ⟨fun hs => ?_, fun hs => ?_⟩
    · rw [station, if_pos ((isSilent_iff s i).mpr hs)]; rfl
    · rw [station, if_neg (mt (isSilent_iff s i).mp hs)]

/-! ## Phase deadlines (R67) -/

theorem phaseDue_iff (s : State) (i : StationNo) : s.phaseDue i = true
    ↔ ∃ d, (s.station i).deadline = some d ∧ (s.clock - d).toNat < 2147483648 := by
  unfold State.phaseDue expired reached
  cases (s.station i).deadline <;> simp

/-- Settles O58: each deadline command tests its own state and whether the deadline is reached. -/
theorem phaseDeadlinesExpire : Obligations.PhaseDeadlinesExpire := by
  intro s i st due faulted
  have reached : s.phaseDue i = true ↔ due := phaseDue_iff s i
  have both {x : StState} : st.state = x ∧ s.phaseDue i = true ↔ st.state = x ∧ due := and_congr_right fun _ => reached
  have ended {t u : State} (h : t = u) : (Host.Outcome.next t.endEvent : Effect) = .next u.endEvent := by rw [h]
  refine ⟨?_, fun h hd => ended (if_pos (both.mpr ⟨h, hd⟩)), fun h hd => ended (if_pos (both.mpr ⟨h, hd⟩)),
    fun h hd => ended ?_, fun h hd => ended ?_⟩
  · simp only [List.mem_cons, List.not_mem_nil, or_false, forall_eq_or_imp, forall_eq]
    exact ⟨fun h => ended (if_neg (mt both.mp h)), fun h => ended (if_neg (mt both.mp h)),
      fun h => ended (if_neg (mt both.mp h)), fun h => ended (if_neg (mt both.mp h))⟩
  · exact (if_pos (both.mpr ⟨h, hd⟩)).trans (endTest_faulted_abort ..)
  · exact (if_pos (both.mpr ⟨h, hd⟩)).trans (faulted_abort_eq ..)

end Sys2Proof.Machine
end


section
/-!
PROOFS. The events of a station: SEATED, SEAL FAULT, REACHED, VENTED, RELEASED and BURST (R69 to R72, R75 to R78, R96,
R105).
-/

namespace Sys2Proof.Machine

/-! ## Each event's frame (R64, R194) -/

section frames
variable {s : State} {h : Hdr} {i : StationNo}

theorem seated_runs {field : List Byte} (hl : field.length = 17) (hs : s.HearsStation h (1 :: field) i) :
    exec (.seated h field) s = .next (((s.heardFrom h i).seatedEvent i field).passOn (frameTo s h 4 (1 :: field)) true) := by
  refine congrArg Host.Outcome.next ((arrive_stationEvent hs).trans ?_)
  have event : stationEvent (1 :: field) = some (.seated field) := by
    unfold stationEvent
    rw [List.length_cons, hl]
    rfl
  rw [event]; rfl

theorem sealFault_runs (hs : s.HearsStation h [2] i) :
    exec (.sealFault h []) s = .next (((s.heardFrom h i).sealFaultEvent i).passOn (frameTo s h 4 [2]) true) :=
  congrArg Host.Outcome.next (arrive_stationEvent hs)

theorem reached_runs {b : Byte} (hs : s.HearsStation h [3, b] i) : exec (.reached h [b]) s
    = .next (((s.heardFrom h i).reachedEvent i b.toNat).passOn (frameTo s h 4 [3, b]) true) :=
  congrArg Host.Outcome.next (arrive_stationEvent hs)

theorem vented_runs (hs : s.HearsStation h [4] i) :
    exec (.vented h []) s = .next (((s.heardFrom h i).ventedEvent i).passOn (frameTo s h 4 [4]) true) :=
  congrArg Host.Outcome.next (arrive_stationEvent hs)

theorem released_runs (hs : s.HearsStation h [5] i) :
    exec (.released h []) s = .next (((s.heardFrom h i).releasedEvent i).passOn (frameTo s h 4 [5]) true) :=
  congrArg Host.Outcome.next (arrive_stationEvent hs)

theorem burst_runs (hs : s.HearsStation h [6] i) :
    exec (.burst h []) s = .next (((s.heardFrom h i).burstEvent i).passOn (frameTo s h 4 [6]) true) :=
  congrArg Host.Outcome.next (arrive_stationEvent hs)

end frames

/-- A test goes on while its station's frame is handled. -/
theorem heardFrom_tests {s : State} {i : StationNo} {n : RecNo} {r : Record} (h : Hdr) (ht : s.Tests i n r) :
    (s.heardFrom h i).Tests i n r := ⟨by rw [heardFrom_station, seen_record]; exact ht.1, by rw [heardFrom_getRec]; exact ht.2⟩

/-! ## Eligible records (R69) -/

theorem findSerial_holds {s : State} {sr : List Byte} {n : RecNo} (h : s.findSerial sr = some n) :
    ∃ r, s.getRec n = some r ∧ r.serial = sr := by
  have found := List.find?_some h
  cases hr : s.getRec n with
  | none => rw [hr] at found; cases found
  | some r =>
    rw [hr] at found
    exact ⟨r, rfl, by simpa using found⟩

/-- Which records are eligible goes by the Record Table alone. -/
theorem eligible_congr {s t : State} (h : t.records = s.records) (field : List Byte) : t.eligible field = s.eligible field := by
  have recs (n : RecNo) : t.getRec n = s.getRec n := congrArg (fun x : RecordTable => x.table[n]) h
  have find : t.findSerial = s.findSerial := by funext sr; simp only [State.findSerial, recs]
  simp only [State.eligible, recs, find]

theorem eligible_of {s : State} {field sr : List Byte} {n : RecNo} {r : Record} {f : SeatedFrom}
    (hs : serialOf field = some sr) (h : s.Holds sr n r) (hst : r.state = f.recState) : s.eligible field = some (n, r, f) := by
  unfold State.eligible
  rw [hs, Option.bind_some, findSerial_of h]
  dsimp only
  rw [h.1]
  dsimp only
  rw [hst]
  cases f <;> rfl

theorem eligible_eq_none {s : State} {field : List Byte} (h : ∀ sr, serialOf field = some sr → ∀ n r, s.getRec n = some r →
    r.serial = sr → r.state ≠ .inspected ∧ r.state ≠ .retestWait) : s.eligible field = none := by
  unfold State.eligible
  cases hf : (serialOf field).bind s.findSerial with
  | none => rfl
  | some n =>
    obtain ⟨sr, hs, hn⟩ := Option.bind_eq_some_iff.mp hf
    obtain ⟨r, hr, hserial⟩ := findSerial_holds hn
    obtain ⟨hi, hw⟩ := h sr hs n r hr hserial
    dsimp only
    rw [hr]
    dsimp only
    cases hst : r.state
    case inspected => exact absurd hst hi
    case retestWait => exact absurd hst hw
    all_goals rfl

/-! ## A seat in VACANT (R69, R70) -/

/-- R69, R70: a station made ready keeps its configuration, its leaving-service flag and its last frame time. -/
theorem ready_eq (n : RecNo) (c : Clock) (e : TypeEntry) (st : Station) : st.ready n c e = ⟨st.cfg, .seated, some n, 0,
    some (c + BitVec.ofNat 32 (e.zeroTimeout * 1000)), none, [], none, 0, none, false, false, st.leaving, st.lastFrame⟩ := rfl

/-- R26, R69: an eligible record seated at a station just updated. -/
theorem acceptSeat_updStation (s : State) (i : StationNo) (g : Station → Station) (n : RecNo) (r : Record) (f : SeatedFrom) :
    (s.updStation i g).acceptSeat i n r f
      = { s.offer (.station i) (g (s.station i)).cfg.addr (.order (.start r.serial)) with
          records := { s.records with
            table := s.records.table.set n.val (some { r with state := .onTest, seatedFrom := some f, verdict := none }) n.isLt }
          stations := s.stations.set i.val ((g (s.station i)).ready n s.clock (s.typeEntry r)) i.isLt } := by
  unfold State.acceptSeat State.orderStation
  rw [station_putRec, station_updStation_self]
  simp [State.updStation, State.putRec, State.updRecords, State.offer, State.updPort, State.station, Vector.set_set]
  rfl

section seat
variable {s : State} {i : StationNo} {field : List Byte}

theorem seatVacant_ineligible (h : s.eligible field = none) :
    s.seatVacant i field = (s.releaseWith i (.reject (echoField field))).ignored := by
  unfold State.seatVacant; rw [h]

section eligible
variable {n : RecNo} {r : Record} {f : SeatedFrom} (h : s.eligible field = some (n, r, f))
include h

theorem seatVacant_sealed (hp : (s.station i).sealPending = true) (hr : s.getRec n = some r) : s.seatVacant i field
    = (s.releaseWith i (.reject (echoField field))).putRec n (some { r with lastAbort := some .seal }) := by
  unfold State.seatVacant
  rw [h]
  dsimp only
  rw [if_pos hp, modRec_some (show (s.releaseWith i _).getRec n = some r from hr)]

theorem seatVacant_accepts (hp : (s.station i).sealPending = false) : s.seatVacant i field = s.acceptSeat i n r f := by
  unfold State.seatVacant
  rw [h]
  dsimp only
  rw [if_neg (Bool.not_eq_true _ ▸ hp)]

end eligible

/-! ## A SEATED event by the station's state (R69 to R72) -/

theorem finishRelease_leaving (h : (s.station i).leaving = true) : s.finishRelease i
    = s.updStation i fun st => { st with state := .outOfService, deadline := none, leaving := false } := if_pos h

theorem finishRelease_vacant (h : (s.station i).leaving = false) : s.finishRelease i = s.enterVacant i :=
  if_neg (Bool.not_eq_true _ ▸ h)

theorem seatedEvent_vacant (h : (s.station i).state = .vacant) : s.seatedEvent i field = s.seatVacant i field := by
  unfold State.seatedEvent; rw [h]

theorem seatedEvent_leaves (h : (s.station i).state = .releasing) (hl : (s.station i).leaving = true) :
    s.seatedEvent i field = (s.updStation i fun st => { st with state := .outOfService, deadline := none, leaving := false }).ignored := by
  unfold State.seatedEvent
  rw [h]
  dsimp only
  rw [if_pos hl, finishRelease_leaving hl]

theorem seatedEvent_releases (h : (s.station i).state = .releasing) (hl : (s.station i).leaving = false) :
    s.seatedEvent i field = (s.enterVacant i).seatVacant i field := by
  unfold State.seatedEvent
  rw [h]
  dsimp only
  rw [if_neg (Bool.not_eq_true _ ▸ hl), finishRelease_vacant hl]

theorem seatedEvent_ignored (h : (s.station i).state = .outOfService ∨ (s.station i).state = .faulted
    ∨ (s.station i).state = .resync) : s.seatedEvent i field = s.ignored := by
  unfold State.seatedEvent; rcases h with h | h | h <;> rw [h]

/-- R71: a running test is superseded. -/
theorem seatedEvent_supersedes (h : (s.station i).state.inCycle = true) :
    s.seatedEvent i field = ((s.endTest i .superseded).enterVacant i).seatVacant i field := by
  unfold State.seatedEvent
  cases hst : (s.station i).state <;> simp [hst, StState.inCycle] at h ⊢

end seat

/-- Settles O49: the seat in VACANT, of the station as it is and as its last release leaves it. -/
theorem seatIsAccepted : Obligations.SeatIsAccepted := by
  intro s h i field sr n r f hl hsr hs hh hst hready seated onTest
  refine (seated_runs hl hs).trans (congrArg (fun t => Host.Outcome.next (State.passOn _ true t)) ?_)
  obtain rfl := hh.2.1
  have holds (g : Station → Station) : ((s.heard h).updStation i g).Holds r.serial n r := by
    refine ⟨?_, rfl, fun m q hq => hh.2.2 m q ?_⟩
    · rw [getRec_updStation, heard_getRec]; exact hh.1
    · rwa [getRec_updStation, heard_getRec] at hq
  have accepts {g : Station → Station} (hp : (g (s.station i)).sealPending = false)
      (hg : (g (s.station i)).ready n s.clock (s.typeEntry r) = seated) (ha : (g (s.station i)).cfg = (s.station i).cfg) :
      ((s.heard h).updStation i g).seatVacant i field = { (s.heard h).offer (.station i) (s.station i).cfg.addr
        (.order (.start r.serial)) with
          records := { s.records with table := s.records.table.set n.val (some onTest) n.isLt }
          stations := s.stations.set i.val seated i.isLt } := by
    rw [seatVacant_accepts (eligible_of hsr (holds g) hst) (by rw [station_updStation_self, heard_station]; exact hp),
      acceptSeat_updStation, heard_station, heard_clock, heard_typeEntry, heard_records, heard_stations, hg, ha]
  rcases hready with ⟨hv, hp⟩ | ⟨hr, hleave⟩
  · rw [seatedEvent_vacant (by rw [heardFrom_station, seen_state]; exact hv), heardFrom_eq]
    refine accepts (by rwa [seen_sealPending]) ?_ (seen_cfg ..)
    rw [ready_eq, seen_cfg, seen_leaving, seen_lastFrame (by rw [hv]; decide)]
  · rw [seatedEvent_releases (by rw [heardFrom_station, seen_state]; exact hr)
      (by rw [heardFrom_station, seen_leaving]; exact hleave), heardFrom_eq, State.enterVacant, updStation_updStation]
    refine accepts rfl ?_ (seen_cfg ..)
    show Station.ready n s.clock (s.typeEntry r) (((s.station i).seen s.clock).emptied .vacant) = seated
    rw [ready_eq]
    simp [Station.emptied, Station.blank, seen_lastFrame (show (s.station i).state ≠ .outOfService by rw [hr]; decide),
      seated, hleave]

/-- Settles O50: a SEATED event by the station's state, and a seat in VACANT by the record. -/
theorem seatIsRefused : Obligations.SeatIsRefused := by
  intro s h i field hl hs st x becomes emptied rejected ineligible
  have runs {t : State} (ht : x.seatedEvent i field = t) : becomes t := by
    refine (seated_runs hl hs).trans ?_
    rw [ht]
  have state : (x.station i).state = st.state := by rw [heardFrom_station, seen_state]
  have leaving : (x.station i).leaving = st.leaving := by rw [heardFrom_station, seen_leaving]
  have cfg : (x.station i).cfg = st.cfg := by rw [heardFrom_station, seen_cfg]
  have reject {t : State} (ha : (t.station i).cfg = st.cfg) (hc : t.clock = s.clock) :
      t.releaseWith i (.reject (echoField field)) = rejected t := by
    rw [releaseWith_eq, ha, hc]
  have none (hi : ineligible) : x.eligible field = none :=
    (eligible_congr (heardFrom_records ..) field).trans (eligible_eq_none hi)
  refine ⟨fun hst => runs (seatedEvent_ignored (state ▸ hst)), fun hst hle => runs (seatedEvent_leaves (state.trans hst)
    (leaving.trans hle)), fun hst hi => runs ?_, fun hst hle hi => runs ?_, fun hst hp sr n r hsr hh hr => runs ?_,
    fun hst => runs (seatedEvent_supersedes (state ▸ hst))⟩
  · rw [seatedEvent_vacant (state.trans hst), seatVacant_ineligible (none hi), reject cfg (heardFrom_clock ..)]
  · rw [seatedEvent_releases (state.trans hst) (leaving.trans hle), seatVacant_ineligible
      ((eligible_congr (t := x.enterVacant i) rfl field).trans (none hi)), reject (t := x.enterVacant i) ?_ (heardFrom_clock h i s)]
    · rfl
    · exact (congrArg Station.cfg (station_updStation_self ..)).trans cfg
  · obtain ⟨f, hf⟩ : ∃ f : SeatedFrom, r.state = f.recState := hr.elim (fun e => ⟨.inspected, e⟩) fun e => ⟨.retestWait, e⟩
    have eligible : x.eligible field = some (n, r, f) :=
      (eligible_congr (heardFrom_records ..) field).trans (eligible_of hsr hh hf)
    rw [seatedEvent_vacant (state.trans hst), seatVacant_sealed eligible (by rw [heardFrom_station, seen_sealPending]; exact hp)
      (by rw [heardFrom_getRec]; exact hh.1), reject cfg (heardFrom_clock ..)]

/-! ## SEAL FAULT, RELEASED and BURST (R75 to R77) -/

section events
variable {t : State} {i : StationNo}

theorem sealFaultEvent_vacant (h : (t.station i).state = .vacant) :
    t.sealFaultEvent i = t.updStation i fun st => { st with sealPending := true } := by
  unfold State.sealFaultEvent; rw [h]

theorem sealFaultEvent_ends (h : (t.station i).state = .seated ∨ (t.station i).state = .ramping ∨ (t.station i).state = .holding
    ∨ (t.station i).state = .settling ∨ (t.station i).state = .venting ∧ (t.station i).aborted = false) :
    t.sealFaultEvent i = t.abortTest i .seal := by
  unfold State.sealFaultEvent
  rcases h with h | h | h | h | ⟨h, ha⟩ <;> rw [h]
  exact if_neg (Bool.not_eq_true _ ▸ ha)

theorem sealFaultEvent_ignored (hv : (t.station i).state ≠ .vacant) (h : ¬ ((t.station i).state = .seated
    ∨ (t.station i).state = .ramping ∨ (t.station i).state = .holding ∨ (t.station i).state = .settling
    ∨ (t.station i).state = .venting ∧ (t.station i).aborted = false)) : t.sealFaultEvent i = t.ignored := by
  unfold State.sealFaultEvent
  cases hst : (t.station i).state <;> simp [hst] at hv h ⊢
  exact fun ha => absurd ha (by simp [h])

theorem releasedEvent_releases (h : (t.station i).state = .releasing ∨ (t.station i).state = .resync) :
    t.releasedEvent i = t.finishRelease i := by
  unfold State.releasedEvent; rcases h with h | h <;> rw [h]

theorem releasedEvent_vacant (h : (t.station i).state = .vacant) :
    t.releasedEvent i = t.updStation i fun st => { st with sealPending := false } := by
  unfold State.releasedEvent; rw [h]

theorem releasedEvent_ignored (h : (t.station i).state = .outOfService ∨ (t.station i).state = .faulted) :
    t.releasedEvent i = t.ignored := by
  unfold State.releasedEvent; rcases h with h | h <;> rw [h]

theorem releasedEvent_supersedes (h : (t.station i).state.inCycle = true) :
    t.releasedEvent i = (t.endTest i .superseded).enterVacant i := by
  unfold State.releasedEvent
  cases hst : (t.station i).state <;> simp [hst, StState.inCycle] at h ⊢

theorem burstEvent_ignored (h : (t.station i).state = .outOfService) : t.burstEvent i = t.ignored := if_pos h

theorem burstEvent_faults (h : (t.station i).state ≠ .outOfService) : t.burstEvent i = ((if (t.station i).record.isSome
    then t.concludeTest i .burst else t).enterFaulted i).updPort (·.emptySlot (.station i)) := if_neg h

end events

/-- Settles O51: each event by the station's state. -/
theorem stationEventsByState : Obligations.StationEventsByState := by
  intro s h i st x becomes emptied faulted under
  have answer {c : Instr} {code : Byte} {t u : State} (hc : exec c s = .next (t.passOn (frameTo s h 4 [code]) true)) (ht : t = u) :
      becomes c code u := ht ▸ hc
  have state : (x.station i).state = st.state := by rw [heardFrom_station, seen_state]
  have leaving : (x.station i).leaving = st.leaving := by rw [heardFrom_station, seen_leaving]
  have aborted : (x.station i).aborted = st.aborted := by rw [heardFrom_station, seen_aborted]
  have record : (x.station i).record = st.record := by rw [heardFrom_station, seen_record]
  refine ⟨fun hs => ?_, fun hs => ?_, fun hs => ?_⟩
  · have run {u : State} := answer (u := u) (sealFault_runs hs)
    exact ⟨fun hv => run (sealFaultEvent_vacant (state.trans hv)), fun hu => run (sealFaultEvent_ends (by rwa [state, aborted])),
      fun hv hu => run (sealFaultEvent_ignored (state ▸ hv) (by rwa [state, aborted]))⟩
  · have run {u : State} := answer (u := u) (released_runs hs)
    exact ⟨fun hr hl => run ((releasedEvent_releases (state ▸ hr)).trans (finishRelease_vacant (leaving.trans hl))),
      fun hr hl => run ((releasedEvent_releases (state ▸ hr)).trans (finishRelease_leaving (leaving.trans hl))),
      fun hv => run (releasedEvent_vacant (state.trans hv)), fun hc => run (releasedEvent_supersedes (state ▸ hc)),
      fun ho => run (releasedEvent_ignored (state ▸ ho))⟩
  · have run {u : State} := answer (u := u) (burst_runs hs)
    refine ⟨fun ho => run (burstEvent_ignored (state.trans ho)), fun ho hn => run ((burstEvent_faults (state ▸ ho)).trans ?_),
      fun ho hn => run ((burstEvent_faults (state ▸ ho)).trans ?_)⟩
    · rw [if_neg (by rw [record, hn]; decide)]
      rfl
    · rw [if_pos (by rw [record]; exact Option.isSome_iff_ne_none.mpr hn)]
      rfl

/-! ## REACHED and VENTED (R78, R96, R99, R105) -/

/-- R95: a step ordered. -/
theorem orderStep_eq (s : State) (i : StationNo) (e : TypeEntry) (k : Nat) : s.orderStep i e k
    = (s.offer (.station i) (s.station i).cfg.addr
        (.order (.step k (if k = e.steps then e.pt else e.pt * k / e.steps)))).updStation i fun st =>
          { st with step := k, deadline := some (s.clock + BitVec.ofNat 32 (e.stepTimeout * 1000)) } := rfl

/-- R99: the hold of a test begins. -/
theorem beginHold_of {s : State} {i : StationNo} {n : RecNo} {r : Record} (ht : s.Tests i n r) (e : TypeEntry) :
    s.beginHold i e = (s.putRec n (some { r with result := r.result.map fun t => { t with pressures := none } })).updStation i
      fun st => { st with
        state := .holding, deadline := some (s.clock + BitVec.ofNat 32 (e.holdTime * 1000)), window := [], pressures := none } := by
  unfold State.beginHold
  rw [modResult_of (n := n) (r := r) ⟨by rw [station_updStation_self]; exact ht.1, by rw [getRec_updStation]; exact ht.2⟩]
  rfl

/-- Settles O53: `reachedEvent` and `ventedEvent` by their tests. -/
theorem reachedAndVented : Obligations.ReachedAndVented := by
  intro s h i n r b st e k x secs becomes
  have answer {c : Instr} {p : List Byte} {t u : State} (hc : exec c s = .next (t.passOn (frameTo s h 4 p) true)) (ht : t = u) :
      becomes c p u := ht ▸ hc
  have state : (x.station i).state = st.state := by rw [heardFrom_station, seen_state]
  have step : (x.station i).step = st.step := by rw [heardFrom_station, seen_step]
  have aborted : (x.station i).aborted = st.aborted := by rw [heardFrom_station, seen_aborted]
  have addr : (x.station i).cfg.addr = st.cfg.addr := by rw [heardFrom_station, seen_cfg]
  have clock : x.clock = s.clock := heardFrom_clock ..
  have entry (ht : s.Tests i n r) : x.testEntry i = e :=
    (testEntry_of (heardFrom_tests h ht)).trans (heardFrom_typeEntry ..)
  have reaches : x.reachedEvent i k = if st.state = .ramping ∧ k = st.step then
      (if k < (x.testEntry i).steps then x.orderStep i (x.testEntry i) (k + 1) else x.beginHold i (x.testEntry i))
      else x.ignored := by
    rw [← state, ← step]; rfl
  have vents : x.ventedEvent i = if st.state = .venting then (if st.aborted = true then x.releaseWith i .release else
      x.updStation i fun st => { st with
        state := .settling, deadline := some (x.clock + BitVec.ofNat 32 ((x.testEntry i).settleTime * 1000)), window := [] })
      else x.ignored := by
    rw [← state, ← aborted]; rfl
  refine ⟨fun hs => ?_, fun hs => ?_⟩
  · have run {u : State} := answer (u := u) (reached_runs hs)
    refine ⟨fun ht hr hk hlt => run (reaches.trans ?_), fun ht hr hk hle => run (reaches.trans ?_),
      fun hn => run (reaches.trans (if_neg fun hc => hn.elim (absurd hc.1) (absurd hc.2)))⟩
    · rw [if_pos ⟨hr, hk⟩, entry ht, if_pos hlt, orderStep_eq, addr, clock]
    · rw [if_pos ⟨hr, hk⟩, entry ht, if_neg hle.not_gt, beginHold_of (heardFrom_tests h ht), clock]
  · have run {u : State} := answer (u := u) (vented_runs hs)
    refine ⟨fun hv ha => run (vents.trans ?_), fun ht hv ha => run (vents.trans ?_), fun hv => run (vents.trans (if_neg hv))⟩
    · rw [if_pos hv, if_pos ha, releaseWith_eq, addr, clock]
      rfl
    · rw [if_pos hv, if_neg (Bool.not_eq_true _ ▸ ha), entry ht, clock]

end Sys2Proof.Machine
end


section
/-!
PROOFS. A SAMPLE at a station (R87 to R93, R95, R98, R100, R111).
-/

namespace Sys2Proof.Machine

/-! ## The sample and its window (R88, R90, R91) -/

theorem failed_iff (x : SampleFields) : x.failed = true ↔ x.pressure = 65535 ∨ x.level = 65535 ∨ x.temp = 65535 := by
  simp [SampleFields.failed, or_assoc]

/-- R91: the levels of the latest samples lie within the band of each other. -/
theorem stable_iff (e : TypeEntry) (w : List Sample) : stable e w = true ↔ e.window ≤ w.length
    ∧ ∀ a ∈ w.drop (w.length - e.window), ∀ b ∈ w.drop (w.length - e.window), a.level ≤ b.level + e.stabBand := by
  simp only [stable, latestLevels, Bool.and_eq_true, decide_eq_true_eq, List.all_eq_true, List.forall_mem_map]

theorem missedBefore_of {expected : Option Byte} {seq : Byte} {d : Nat}
    (h : expected = none ∧ d = 0 ∨ ∃ q, expected = some q ∧ d = (seq - q).toNat ∧ d < 128) :
    missedBefore expected seq = some d := by
  rcases h with ⟨rfl, rfl⟩ | ⟨q, rfl, rfl, hd⟩
  · rfl
  · exact if_pos hd

theorem missedBefore_eq_none_iff (expected : Option Byte) (seq : Byte) :
    missedBefore expected seq = none ↔ ¬ ∀ q, expected = some q → (seq - q).toNat < 128 := by
  cases expected with
  | none => simp [missedBefore]
  | some e => simp [missedBefore]

theorem gapEnds_iff (st : StState) (mode : GapMode) (gaps : Nat) :
    gapEnds st mode gaps = true ↔ (st = .holding ∨ st = .settling) ∧ (mode = .strict ∨ 3 < gaps) := by
  simp [gapEnds]

/-- R194: a heard SAMPLE of the required length. -/
theorem sample_runs {s : State} {h : Hdr} {i : StationNo} {seq : Byte} {pr lv tp : Nat} (hp : pr < 65536) (hl : lv < 65536)
    (ht : tp < 65536) (hs : s.HearsStation h (samplePayload seq pr lv tp) i) :
    exec (.sample h (samplePayload seq pr lv tp)) s = .next (((s.heardFrom h i).sampleEvent i ⟨seq, pr, lv, tp⟩).passOn
      (frameTo s h 3 (samplePayload seq pr lv tp)) true) := by
  refine congrArg Host.Outcome.next ((arrive_sample hs).trans ?_)
  rw [sampleFields_samplePayload seq hp hl ht]
  rfl

/-! ## Which samples are used (R78, R88, R111) -/

section sampleEvent
variable {t : State} {i : StationNo} {x : SampleFields}

theorem sampleEvent_outside (h : (t.station i).state.inCycle = false) : t.sampleEvent i x = t :=
  if_neg (Bool.not_eq_true _ ▸ h)

theorem sampleEvent_stale (hm : missedBefore (t.station i).expected x.seq = none) : t.sampleEvent i x = t := by
  unfold State.sampleEvent
  rw [hm]
  exact ite_self t

section used
variable {m : Nat} (hm : missedBefore (t.station i).expected x.seq = some m)
include hm

theorem sampleEvent_aborted (hv : (t.station i).state = .venting) (ha : (t.station i).aborted = true) : t.sampleEvent i x
    = if x.failed = true then t.expectNext i x.seq else (t.expectNext i x.seq).enterWindow i x.entered := by
  unfold State.sampleEvent
  rw [if_pos (by rw [hv]; rfl), hm]
  exact if_pos ⟨hv, ha⟩

theorem sampleEvent_inOrder (hc : (t.station i).state.inCycle = true)
    (hn : ¬ ((t.station i).state = .venting ∧ (t.station i).aborted = true)) :
    t.sampleEvent i x = (t.expectNext i x.seq).inOrderSample i m x := by
  unfold State.sampleEvent
  rw [if_pos hc, hm]
  exact if_neg hn

end used
end sampleEvent

/-- Settles O54: the samples that `sampleEvent` passes over, and those after an abort. -/
theorem sampleIsPassedOver : Obligations.SampleIsPassedOver := by
  intro s h i seq pr lv tp hp hl ht p hs st x becomes failed fresh w
  have run {t : State} (e : x.sampleEvent i ⟨seq, pr, lv, tp⟩ = t) : becomes t := by
    refine (sample_runs hp hl ht hs).trans ?_
    rw [e]
  have state : (x.station i).state = st.state := by rw [heardFrom_station, seen_state]
  have aborted : (x.station i).aborted = st.aborted := by rw [heardFrom_station, seen_aborted]
  have window : (x.station i).window = st.window := by rw [heardFrom_station, seen_window]
  have stale : missedBefore (x.station i).expected seq = none ↔ ¬ fresh := by
    rw [heardFrom_station, seen_expected]; exact missedBefore_eq_none_iff ..
  have used (hf : fresh) : ∃ m, missedBefore (x.station i).expected seq = some m :=
    Option.ne_none_iff_exists'.mp fun e => stale.mp e hf
  have bad : (⟨seq, pr, lv, tp⟩ : SampleFields).failed = true ↔ failed := failed_iff _
  refine ⟨fun hc => run (sampleEvent_outside (state ▸ hc)), fun _ hf => run (sampleEvent_stale (stale.mpr hf)),
    fun hv ha hf hb => run ?_, fun hv ha hf hb => run ?_⟩
  all_goals obtain ⟨m, hm⟩ := used hf
  · rw [sampleEvent_aborted hm (state.trans hv) (aborted.trans ha), if_pos (bad.mpr hb)]
    rfl
  · rw [sampleEvent_aborted hm (state.trans hv) (aborted.trans ha), if_neg (mt bad.mp hb), State.expectNext, State.enterWindow,
      updStation_updStation]
    refine updStation_congr _ _ ?_
    simp only [pushSample, window, w, List.length_append, List.length_singleton]
    rfl

/-! ## A sample in a test (R87, R89) -/

section inTest
variable {t : State} {i : StationNo} {n : RecNo} {r : Record} (ht : t.Tests i n r)

/-- The record of a test after a gap of `d` samples, at the state of its station and the gap count that the gap leaves. -/
def gapCounted (st : StState) (d gaps : Nat) (r : Record) : Record :=
  if d = 0 ∨ st = .seated then r else { r with result := r.result.map fun x => { x with gaps := gaps } }

/-- R89: the station's gap count after a gap of `d` samples. -/
def gapsAfter (gaps d : Nat) : Nat := if d = 0 then gaps else min (gaps + d) 255

/-- R88, R89: the state in which an in-order sample after a gap of `d` samples is examined. -/
def State.sampled (i : StationNo) (n : RecNo) (r : Record) (seq : Byte) (d : Nat) (t : State) : State :=
  (t.putRec n (some (gapCounted (t.station i).state d (gapsAfter (t.station i).gaps d) r))).updStation i fun st =>
    { st with expected := some (seq + 1), gaps := gapsAfter (t.station i).gaps d }

include ht

theorem expectNext_eq (seq : Byte) : t.expectNext i seq = t.sampled i n r seq 0 := by
  unfold State.sampled gapCounted gapsAfter State.expectNext
  rw [if_pos (Or.inl rfl), if_pos rfl, putRec_self t n _ ht.2]
  exact updStation_congr _ _ rfl

theorem countGap_eq (seq : Byte) {d : Nat} (hd : d ≠ 0) : (t.expectNext i seq).countGap i d = t.sampled i n r seq d := by
  have gaps : ((t.expectNext i seq).station i).gaps = (t.station i).gaps := by rw [State.expectNext, station_updStation_self]
  have state : ((t.expectNext i seq).station i).state = (t.station i).state := by rw [State.expectNext, station_updStation_self]
  unfold State.countGap State.sampled gapCounted gapsAfter
  rw [if_neg hd, gaps, state]
  dsimp only
  by_cases h : (t.station i).state = .seated
  · rw [if_pos h, if_pos (Or.inr h), putRec_self t n _ ht.2, State.expectNext, updStation_updStation]
    rfl
  · have tests (f : Station → Station) (hf : (f (t.station i)).record = (t.station i).record) : (t.updStation i f).Tests i n r :=
      ⟨by rw [station_updStation_self, hf]; exact ht.1, by rw [getRec_updStation]; exact ht.2⟩
    rw [if_neg h, if_neg (by rintro (h0 | h1) <;> contradiction), State.expectNext, updStation_updStation,
      modResult_of (tests _ rfl)]
    rfl

/-- R87, R89: a gap may end the test; else the sample is examined. -/
theorem inOrderSample_eq (x : SampleFields) (d : Nat) : (t.expectNext i x.seq).inOrderSample i d x
    = if d ≠ 0 ∧ gapEnds (t.station i).state t.mgmt.latched.gapMode (gapsAfter (t.station i).gaps d) = true
      then (t.sampled i n r x.seq d).abortTest i .sampleGaps else (t.sampled i n r x.seq d).useSample i x := by
  unfold State.inOrderSample
  by_cases hd : d = 0
  · subst hd
    rw [if_pos rfl, if_neg (fun h => h.1 rfl), expectNext_eq ht]
  · have state : ((t.expectNext i x.seq).station i).state = (t.station i).state := by rw [State.expectNext, station_updStation_self]
    have gaps : ((t.sampled i n r x.seq d).station i).gaps = gapsAfter (t.station i).gaps d := by
      rw [State.sampled, station_updStation_self]
    rw [if_neg hd, countGap_eq ht x.seq hd, state]
    dsimp only
    rw [gaps]
    exact if_congr (and_iff_right hd).symm rfl rfl

end inTest

/-! ## The phase acts (R92, R93, R95, R98, R100) -/

section phases
variable {t : State} {i : StationNo} {n : RecNo} {r : Record} (ht : t.Tests i n r)
include ht

/-- R93: zero captured. -/
theorem captureZero_eq (e : TypeEntry) (x : Sample) : t.captureZero i e x
    = ((t.putRec n (some (startAttempt i ⟨x.level, x.temp⟩ (t.station i).gaps r))).offer (.station i) (t.station i).cfg.addr
        (.order (.step 1 (if 1 = e.steps then e.pt else e.pt * 1 / e.steps)))).updStation i fun st => { st with
          state := .ramping, step := 1, deadline := some (t.clock + BitVec.ofNat 32 (e.stepTimeout * 1000)) } := by
  unfold State.captureZero
  rw [ht.1]
  dsimp only
  rw [modRec_some ht.2, orderStep_eq, updStation_updStation, station_putRec]
  rfl

/-- R100: a hold sample's pressure entered. -/
theorem holdPressure_eq (p : Nat) : t.holdPressure i p = (t.putRec n (some { r with
    result := r.result.map fun x => { x with pressures := some (widen p (t.station i).pressures) } })).updStation i fun st =>
      { st with pressures := some (widen p (t.station i).pressures) } := by
  unfold State.holdPressure
  dsimp only
  rw [modResult_of (n := n) (r := r) ⟨by rw [station_updStation_self]; exact ht.1, by rw [getRec_updStation]; exact ht.2⟩]
  rfl

end phases

/-- R98: an overpressure ends the test and vents. -/
theorem overpressure_eq (t : State) (i : StationNo) (e : TypeEntry) : t.overpressure i e
    = ((t.concludeTest i .overpressure).offer (.station i) (t.station i).cfg.addr (.order .vent)).updStation i fun st =>
      { st with
        state := .venting, aborted := true, extensionEnd := none
        deadline := some (t.clock + BitVec.ofNat 32 (e.ventTimeout * 1000)) } := by
  unfold State.overpressure
  rw [ventAborted_eq, station_concludeTest, (State.SameLine.concludeTest t i .overpressure).clock]

section phaseSample
variable {t : State} {i : StationNo} (x : Sample)

theorem phaseSample_seated (h : (t.station i).state = .seated) : t.phaseSample i x
    = if zeroReady (t.testEntry i) (t.station i).window x = true then t.captureZero i (t.testEntry i) x else t := by
  unfold State.phaseSample; rw [h]

theorem phaseSample_ramping (h : (t.station i).state = .ramping) : t.phaseSample i x
    = if (t.testEntry i).pt + (t.testEntry i).band < x.pressure then t.overpressure i (t.testEntry i) else t := by
  unfold State.phaseSample; rw [h]

theorem phaseSample_holding (h : (t.station i).state = .holding) :
    t.phaseSample i x = t.holdSample i (t.testEntry i) x := by
  unfold State.phaseSample; rw [h]

theorem phaseSample_later (h : (t.station i).state = .venting ∨ (t.station i).state = .settling) : t.phaseSample i x = t := by
  unfold State.phaseSample; rcases h with h | h <;> rw [h]

end phaseSample

theorem zeroReady_iff (e : TypeEntry) (w : List Sample) (x : Sample) :
    zeroReady e w x = true ↔ stable e w = true ∧ x.pressure ≤ e.pt / 50 := by
  simp [zeroReady]

/-- Settles O55: the gap first, then the sample's fields, then the phase on the sample in the window. -/
theorem sampleActsInATest : Obligations.SampleActsInATest := by
  intro s h i n r seq pr lv tp d hp hl htp p st hs ht hc hn hd e becomes failed gaps r1 t1 missed w latest ready t2 order tooHigh
    range held begun
  let x : SampleFields := ⟨seq, pr, lv, tp⟩
  have heard : (s.heardFrom h i).Tests i n r := heardFrom_tests h ht
  have state : ((s.heardFrom h i).station i).state = st.state := by rw [heardFrom_station, seen_state]
  have sampled : (s.heardFrom h i).sampled i n r seq d = t1 := by
    unfold State.sampled
    rw [heardFrom_station, seen_state, seen_gaps]
    rfl
  have event : (s.heardFrom h i).sampleEvent i x = if missed then t1.abortTest i .sampleGaps else t1.useSample i x := by
    rw [sampleEvent_inOrder (m := d) (by rw [heardFrom_station, seen_expected]; exact missedBefore_of hd) (state ▸ hc)
      (by rw [heardFrom_station, seen_state, seen_aborted]; exact hn), inOrderSample_eq heard, sampled]
    refine if_congr ?_ rfl rfl
    rw [gapEnds_iff, heardFrom_station, seen_state, seen_gaps, heardFrom_mgmt]
    rfl
  have run {t : State} (he : (s.heardFrom h i).sampleEvent i x = t) : becomes t := by
    refine (sample_runs hp hl htp hs).trans ?_
    rw [he]
  have station : t1.station i = { (s.station i).seen s.clock with expected := some (seq + 1), gaps := gaps } := by
    rw [station_updStation_self, station_putRec, heardFrom_station]
  have clock : t2.clock = s.clock := heardFrom_clock h i s
  have entered : t1.enterWindow i x.entered = t2 := by
    refine updStation_congr _ _ ?_
    rw [station]
    simp only [seen_window]
    rfl
  have station2 : t2.station i = { (s.station i).seen s.clock with expected := some (seq + 1), gaps := gaps, window := w } := by
    rw [station_updStation_self, station]
  have tests : t2.Tests i n r1 := by
    refine ⟨?_, getRec_putRec_self ..⟩
    rw [station2]
    exact (seen_record ..).trans ht.1
  have kept : r1.bank = r.bank ∧ r1.typeCode = r.typeCode := by
    unfold r1; split <;> exact ⟨rfl, rfl⟩
  have entry : t2.testEntry i = e := by
    rw [testEntry_of tests]
    exact (heardFrom_typeEntry h i s r1).trans (typeEntry_congr s kept.1 kept.2)
  have used (hm : ¬ missed) (hf : ¬ failed) : (s.heardFrom h i).sampleEvent i x = t2.phaseSample i x.entered := by
    rw [event, if_neg hm, State.useSample, if_neg (mt (failed_iff x).mp hf), entered]
  have phase : (t2.station i).state = st.state := by rw [station2]; exact seen_state ..
  have addr : (t2.station i).cfg.addr = st.cfg.addr := by rw [station2]; exact congrArg StationConfig.addr (seen_cfg ..)
  have high (t : State) (ha : (t.station i).cfg.addr = st.cfg.addr) (hcl : t.clock = s.clock) : t.overpressure i e = tooHigh t := by
    rw [overpressure_eq, ha, hcl]
  have holding : t2.holdPressure i pr = held := by
    rw [holdPressure_eq tests, station2]
    simp only [seen_pressures]
    rfl
  have highHeld : held.overpressure i e = tooHigh held := by
    refine high held ?_ clock
    rw [station_updStation_self, station_putRec]
    exact addr
  have hold : t2.holdSample i e x.entered
      = if e.pt + e.band < pr then held.overpressure i e else if pr < e.pt then held.abortTest i .pressureLost else held := by
    rw [← holding]; rfl
  have zero : zeroReady e (t2.station i).window x.entered = true ↔ ready := by
    rw [zeroReady_iff, stable_iff, and_assoc, station2]
    rfl
  have started (hst : st.state = .seated) : startAttempt i ⟨x.entered.level, x.entered.temp⟩ (t2.station i).gaps r1 = begun := by
    have same : r1 = r := if_pos (.inr hst)
    rw [station2]
    simp only [begun, same]
    rfl
  refine ⟨fun hm => run (event.trans (if_pos hm)), fun hm hf => run ?_, fun hm hf => ⟨fun hst hr => run ?_, fun hst hr => run ?_,
    fun hst ho => run ?_, fun hst ho => run ?_, fun hst ho => run ?_, fun hst hu => run ?_, fun hst hu ho => run ?_, fun hst => run ?_⟩⟩
  · rw [event, if_neg hm, State.useSample, if_pos ((failed_iff x).mpr hf)]
  all_goals rw [used hm hf]
  · rw [phaseSample_seated _ (phase.trans hst), entry, if_pos (zero.mpr hr), captureZero_eq tests, addr, clock, started hst]
  · rw [phaseSample_seated _ (phase.trans hst), entry, if_neg (mt zero.mp hr)]
  · rw [phaseSample_ramping _ (phase.trans hst), entry]
    exact (if_pos ho).trans (high t2 addr clock)
  · rw [phaseSample_ramping _ (phase.trans hst), entry]
    exact if_neg ho.not_gt
  · rw [phaseSample_holding _ (phase.trans hst), entry, hold]
    exact (if_pos ho).trans highHeld
  · rw [phaseSample_holding _ (phase.trans hst), entry, hold]
    exact (if_neg (by omega)).trans (if_pos hu)
  · rw [phaseSample_holding _ (phase.trans hst), entry, hold]
    exact (if_neg ho.not_gt).trans (if_neg hu.not_gt)
  · exact phaseSample_later _ (phase ▸ hst)

end Sys2Proof.Machine
end


section
/-!
PROOFS. The ends of a hold and of a settle (R101 to R103, R107, R113).
-/

namespace Sys2Proof.Machine

/-! ## Capture (R101, R107) -/

theorem offer_updStation (s : State) (i : StationNo) (f : Station → Station) (k : Src) (a : Byte) (b : Body) :
    (s.updStation i f).offer k a b = (s.offer k a b).updStation i f := rfl

section capture
variable {s : State} {i : StationNo} {n : RecNo} {r : Record} (ht : s.Tests i n r)
include ht

/-- R101: the hold's last reading captured and VENT ordered. -/
theorem captureHold_eq : s.captureHold i = ((s.putRec n (some { r with
      result := r.result.map fun t => { t with total := (s.station i).window.getLast?.map fun x => ⟨x.level, x.temp⟩ } })).offer
        (.station i) (s.station i).cfg.addr (.order .vent)).updStation i fun st => { st with
          state := .venting, aborted := false, extensionEnd := none
          deadline := some (s.clock + BitVec.ofNat 32 ((s.typeEntry r).ventTimeout * 1000)) } := by
  unfold State.captureHold
  rw [modResult_of ht, testEntry_of ht]
  rfl

/-- R107, R113: the expansion of the three readings written in the test result. -/
theorem settled_results {t : TestResult} {total : Reading} {x : Sample} (hr : r.result = some t) (htotal : t.total = some total)
    (hx : (s.station i).window.getLast? = some x) :
    (s.modResult i fun t => { t with settled := latestReading (s.station i).window }).modResult i
        (fun t => { t with expansion := calculated (s.station i).cfg.k t })
      = s.putRec n (some { r with result := some { t with
          settled := some ⟨x.level, x.temp⟩
          expansion := some (expansionOf (s.station i).cfg.k t.zero total ⟨x.level, x.temp⟩) } }) := by
  have tests (q : Record) : (s.putRec n (some q)).Tests i n q := ⟨ht.1, getRec_putRec_self ..⟩
  rw [modResult_of ht, modResult_of (tests _), putRec_putRec, hr]
  simp [latestReading, hx, calculated, htotal]

/-- R107: a settle capture gives the verdict of the figures, with RELEASE ordered. -/
theorem captureSettle_eq {t : TestResult} {total : Reading} {x : Sample} (hr : r.result = some t) (htotal : t.total = some total)
    (hx : (s.station i).window.getLast? = some x) (hst : (s.station i).state = .settling) :
    let found := expansionOf (s.station i).cfg.k t.zero total ⟨x.level, x.temp⟩
    let judged := { r with result := some { t with settled := some ⟨x.level, x.temp⟩, expansion := some found } }
    s.captureSettle i = (((s.putRec n (some judged)).giveVerdict n (verdictOrder (s.typeEntry r) r (.captured found)) true).offer
      (.station i) (s.station i).cfg.addr (.order .release)).updStation i fun st => { st with
        state := .releasing, record := none, deadline := some (s.clock + 60000), extensionEnd := none
        aborted := false, sealPending := false } := by
  intro found judged
  have tests : (s.putRec n (some judged)).Tests i n judged := ⟨ht.1, getRec_putRec_self ..⟩
  let v := verdictOrder (s.typeEntry r) r (.captured found)
  have concluded : (s.putRec n (some judged)).concludeTest i (.captured found)
      = ((s.putRec n (some judged)).giveVerdict n v true).unlink i := by
    rw [concludeTest_of tests, station_putRec, hst, typeEntry_putRec]
    rfl
  have captured : s.captureSettle i = ((s.putRec n (some judged)).concludeTest i (.captured found)).releaseWith i .release := by
    unfold State.captureSettle
    dsimp only
    rw [settled_results ht hr htotal hx, testRec_of tests]
    rfl
  rw [captured, concluded, releaseWith_eq, State.unlink, station_updStation_self, giveVerdict_station]
  have clock := (State.SameLine.giveVerdict (s.putRec n (some judged)) n v true).clock
  rw [offer_updStation, updStation_updStation, State.updStation_clock, clock]
  rfl

end capture

/-! ## The deadline and the extension checks (R101, R102) -/

theorem reached_iff (c d : Clock) : reached c d = true ↔ (c - d).toNat < 2147483648 := decide_eq_true_iff

/-- R101, R102: what a hold or a settle deadline, or an extension check, comes to once it is due. -/
def State.phaseEnds (i : StationNo) (last : Clock) (s : State) : State :=
  if stable (s.testEntry i) (s.station i).window = true then s.capture i
  else if reached s.clock last = true then s.abortTest i .unstable
  else s.updStation i fun st =>
    { st with extensionEnd := some last, deadline := some (nextCheck s.clock st.cfg.period last) }

section expiry
variable {s : State} {i : StationNo}

theorem phaseEndExpiry_idle {phase : StState} (h : (s.station i).state ≠ phase ∨ (s.station i).extensionEnd ≠ none
    ∨ (s.station i).deadline = none) : s.phaseEndExpiry i phase = s := by
  refine if_neg ?_
  rintro ⟨hst, he, hd⟩
  rcases h with h | h | h
  · exact h hst
  · exact h he
  · rw [State.phaseDue, h] at hd; cases hd

theorem extensionExpiry_idle (h : ((s.station i).state ≠ .holding ∧ (s.station i).state ≠ .settling)
    ∨ (s.station i).extensionEnd = none ∨ (s.station i).deadline = none) : s.extensionExpiry i = s := by
  unfold State.extensionExpiry
  cases he : (s.station i).extensionEnd with
  | none => rfl
  | some last =>
    refine if_neg ?_
    rintro ⟨hst, hd⟩
    rcases h with ⟨hh, hs⟩ | h | h
    · exact hst.elim hh hs
    · rw [he] at h; cases h
    · rw [State.phaseDue, h] at hd; cases hd

variable {d : Clock} (hd : (s.station i).deadline = some d)
include hd

theorem phaseDue_some : s.phaseDue i = reached s.clock d := by
  unfold State.phaseDue expired
  rw [hd]
  rfl

theorem phaseEndExpiry_due {phase : StState} (hst : (s.station i).state = phase) (he : (s.station i).extensionEnd = none) :
    s.phaseEndExpiry i phase
      = if reached s.clock d = true then s.phaseEnds i (afterSecs d (s.testEntry i).maxExtension) else s := by
  unfold State.phaseEndExpiry State.phaseEnds
  rw [phaseDue_some hd]
  refine if_congr ⟨fun h => h.2.2, fun h => ⟨hst, he, h⟩⟩ ?_ rfl
  refine if_congr Iff.rfl rfl ?_
  unfold State.beginExtension
  rw [hd]

theorem extensionExpiry_due {last : Clock} (hst : (s.station i).state = .holding ∨ (s.station i).state = .settling)
    (he : (s.station i).extensionEnd = some last) :
    s.extensionExpiry i = if reached s.clock d = true then s.phaseEnds i last else s := by
  unfold State.extensionExpiry State.phaseEnds
  rw [he, phaseDue_some hd]
  refine if_congr (and_iff_right hst) ?_ rfl
  refine if_congr Iff.rfl rfl (if_congr Iff.rfl rfl ?_)
  exact updStation_congr _ _ (by rw [← he])

end expiry

/-- Either command of the end of a phase, due: the extension ends at the end it began with, or its own time after the phase
deadline. -/
theorem phaseEnd_runs {s : State} {i : StationNo} {c : Instr} {phase : StState} {d : Clock}
    (hphase : phase = .holding ∨ phase = .settling) (hst : (s.station i).state = phase) (hd : (s.station i).deadline = some d)
    (hc : exec c s = .next (s.phaseEndExpiry i phase).endEvent ∧ (s.station i).extensionEnd = none
      ∨ exec c s = .next (s.extensionExpiry i).endEvent ∧ (s.station i).extensionEnd ≠ none) :
    exec c s = .next (State.endEvent (if reached s.clock d = true
      then s.phaseEnds i ((s.station i).extensionEnd.getD (afterSecs d (s.testEntry i).maxExtension)) else s)) := by
  rcases hc with ⟨hc, he⟩ | ⟨hc, he⟩
  · rw [hc, phaseEndExpiry_due hd hst he, he]
    rfl
  · obtain ⟨last, hlast⟩ := Option.ne_none_iff_exists'.mp he
    rw [hc, extensionExpiry_due hd (hst ▸ hphase) hlast, hlast]
    rfl

section ends
variable {s : State} {i : StationNo} {last : Clock}

theorem phaseEnds_stable (h : stable (s.testEntry i) (s.station i).window = true) : s.phaseEnds i last = s.capture i := if_pos h

theorem phaseEnds_unstable (h : ¬ stable (s.testEntry i) (s.station i).window = true) (hl : reached s.clock last = true) :
    s.phaseEnds i last = s.abortTest i .unstable := (if_neg h).trans (if_pos hl)

theorem phaseEnds_extends (h : ¬ stable (s.testEntry i) (s.station i).window = true) (hl : ¬ reached s.clock last = true) :
    s.phaseEnds i last = s.updStation i fun st =>
      { st with extensionEnd := some last, deadline := some (nextCheck s.clock st.cfg.period last) } :=
  (if_neg h).trans (if_neg hl)

/-- R102: the next extension check. -/
theorem nextCheck_eq (clock : Clock) (period : Nat) (last : Clock) : nextCheck clock period last
    = if (clock + BitVec.ofNat 32 period - last).toNat < 2147483648 then last else clock + BitVec.ofNat 32 period :=
  if_congr (reached_iff ..) rfl rfl

end ends

/-- Settles O56: `phaseEnds` in HOLDING. -/
theorem holdEnds : Obligations.HoldEnds := by
  intro s i st
  have ended {t u : State} (h : t = u) : (Host.Outcome.next t.endEvent : Effect) = .next u.endEvent := by rw [h]
  refine ⟨fun h => ended (phaseEndExpiry_idle h), fun n r d c ht hst hd hc => ?_⟩
  intro e due latest stableNow last check captured
  have entry : s.testEntry i = e := testEntry_of ht
  have runs := phaseEnd_runs (c := c) (.inl rfl) hst hd
    (hc.imp (fun ⟨hc, he⟩ => ⟨hc ▸ rfl, he⟩) fun ⟨hc, he⟩ => ⟨hc ▸ rfl, he⟩)
  have isStable : stable (s.testEntry i) (s.station i).window = true ↔ stableNow := entry ▸ stable_iff ..
  refine ⟨fun h => runs.trans (ended (if_neg (mt (reached_iff ..).mp h))), fun h hs => runs.trans (ended ?_),
    fun h hs hl => runs.trans (ended ?_), fun h hs hl => runs.trans (ended ?_)⟩
  all_goals rw [if_pos ((reached_iff ..).mpr h)]
  · rw [phaseEnds_stable (isStable.mpr hs), State.capture, if_pos hst, captureHold_eq ht]
  · exact phaseEnds_unstable (mt isStable.mp hs) ((reached_iff ..).mpr (by rw [entry]; exact hl))
  · rw [phaseEnds_extends (mt isStable.mp hs) (mt (reached_iff ..).mp (by rw [entry]; exact hl)), entry]
    refine updStation_congr _ _ ?_
    rw [nextCheck_eq]
    rfl

/-- Settles O57: `phaseEnds` in SETTLING. -/
theorem settleEnds : Obligations.SettleEnds := by
  intro s i st
  have ended {t u : State} (h : t = u) : (Host.Outcome.next t.endEvent : Effect) = .next u.endEvent := by rw [h]
  refine ⟨fun h => ended (phaseEndExpiry_idle h), fun h => ended (extensionExpiry_idle h),
    fun n r t total d c ht hst hd hr htotal hc => ?_⟩
  intro e due latest stableNow last check
  have entry : s.testEntry i = e := testEntry_of ht
  have runs := phaseEnd_runs (c := c) (.inr rfl) hst hd
    (hc.imp (fun ⟨hc, he⟩ => ⟨hc ▸ rfl, he⟩) fun ⟨hc, he⟩ => ⟨hc ▸ rfl, he⟩)
  have isStable : stable (s.testEntry i) (s.station i).window = true ↔ stableNow := entry ▸ stable_iff ..
  refine ⟨fun h => runs.trans (ended (if_neg (mt (reached_iff ..).mp h))), fun h hs x hx => runs.trans (ended ?_),
    fun h hs hl => runs.trans (ended ?_), fun h hs hl => runs.trans (ended ?_)⟩
  all_goals rw [if_pos ((reached_iff ..).mpr h)]
  · rw [phaseEnds_stable (isStable.mpr hs), State.capture, if_neg (by rw [hst]; decide), captureSettle_eq ht hr htotal hx hst]
  · exact phaseEnds_unstable (mt isStable.mp hs) ((reached_iff ..).mpr (by rw [entry]; exact hl))
  · rw [phaseEnds_extends (mt isStable.mp hs) (mt (reached_iff ..).mp (by rw [entry]; exact hl)), entry]
    refine updStation_congr _ _ ?_
    rw [nextCheck_eq]
    rfl

end Sys2Proof.Machine
end


section
/-!
PROOFS. The press and the scrap cell: arrivals, DONE frames and the stamp and condemn deadlines (R144 to R153).
-/

namespace Sys2Proof.Machine

/-! ## DONE frames and deadlines (R150, R151) -/

section done
variable {s : State} {a : Actuator} {c : InFlight} (hc : s.dispatch.disp a = .acting c)
include hc

/-- R150: the DONE of the record in flight. -/
theorem doneFrame_inFlight {field : List Byte} {b : Byte} (hl : field.length = 17) (hs : serialOf field = some c.serial) :
    s.doneFrame a (field ++ [b]) = if b = 1 then (s.closeRec c.record a.doneState).setDisp a .idle
      else if b = 2 then (s.holdRec c.record a.faultReason).setDisp a .idle else s.ignored := by
  have fields : doneFields (field ++ [b]) = some (field, b) := by
    unfold doneFields
    rw [if_pos (by simp [hl]), List.take_left' hl]
    simp [byteAt, hl]
  unfold State.doneFrame
  rw [fields, hc]
  exact if_pos hs

/-- R150: a DONE of another serial than the one in flight. -/
theorem doneFrame_otherSerial {p : List Byte} (hs : serialOf (p.take 17) ≠ some c.serial) : s.doneFrame a p = s.ignored := by
  unfold State.doneFrame doneFields
  rw [hc]
  split
  case h_1 hp hd =>
    cases hd
    split at hp
    case isTrue => cases hp; exact if_neg hs
    case isFalse => cases hp
  case h_2 => rfl

theorem actExpiry_due {r : Record} (hr : s.getRec c.record = some r) (h : (s.clock - c.deadline).toNat < 2147483648) :
    s.actExpiry a = { s.putRec c.record (some { r with state := .hold, holdReason := some a.unconfirmedReason }) with
      dispatch := (s.dispatch.setOffline a true).setDisp a .idle } := by
  unfold State.actExpiry
  rw [hc]
  exact (if_pos ((reached_iff ..).mpr h)).trans (unconfirmed_eq a hr)

theorem actExpiry_early (h : ¬ (s.clock - c.deadline).toNat < 2147483648) : s.actExpiry a = s := by
  unfold State.actExpiry
  rw [hc]
  exact if_neg (mt (reached_iff ..).mp h)

end done

/-- R150: a DONE with no order in flight, or of another length. -/
theorem doneFrame_unasked {s : State} {a : Actuator} {p : List Byte}
    (h : p.length ≠ 18 ∨ ∀ c, s.dispatch.disp a ≠ .acting c) : s.doneFrame a p = s.ignored := by
  unfold State.doneFrame doneFields
  split
  case h_1 c hp hd =>
    rcases h with h | h
    · rw [if_neg h] at hp; cases hp
    · exact absurd hd (h c)
  case h_2 => rfl

theorem actExpiry_idle {s : State} {a : Actuator} (h : ∀ c, s.dispatch.disp a ≠ .acting c) : s.actExpiry a = s := by
  unfold State.actExpiry
  split
  case h_1 c hd => exact absurd hd (h c)
  case h_2 => rfl

theorem closeRec_some {s : State} {n : RecNo} {r : Record} (h : s.getRec n = some r) (st : RecState) : s.closeRec n st
    = { s with records := { s.records with
        table := s.records.table.set n.val (some { r with state := st }) n.isLt, closed := s.records.closed ++ [n] } } := by
  unfold State.closeRec
  rw [modRec_some h]
  rfl

/-- A frame heard leaves the actuators' orders as they were. -/
theorem heard_disp (h : Hdr) (s : State) (a : Actuator) : (s.heard h).dispatch.disp a = s.dispatch.disp a := by
  rw [heard_dispatch]; cases a <;> rfl

theorem heard_list (h : Hdr) (s : State) (a : Actuator) : (s.heard h).dispatch.list a = s.dispatch.list a := by
  rw [heard_dispatch]; cases a <;> rfl

/-- Settles O60: `doneFrame` and `actExpiry` by what the dispatcher holds. -/
theorem doneAndUnconfirmed : Obligations.DoneAndUnconfirmed := by
  refine ⟨rfl, rfl, fun d x b => ⟨rfl, rfl, rfl⟩, fun a s h p c r => ?_⟩
  intro done deadline becomes
  have expires {t : State} (ht : s.actExpiry a = t) : exec deadline s = .next t := by
    subst ht
    cases a <;> rfl
  refine ⟨fun hs => ?_, fun hc hr hd => expires (actExpiry_due hc hr hd), fun hc hd => expires (actExpiry_early hc hd),
    fun hn => expires (actExpiry_idle hn)⟩
  have run {t : State} (ht : (s.heard h).doneFrame a p = t) : becomes t := by
    subst ht
    cases a
    · exact congrArg Host.Outcome.next (arrive_done .press hs)
    · exact congrArg Host.Outcome.next (arrive_done .scrapCell hs)
  refine ⟨fun hc hr field b hl hsr hp => ?_, fun hn => run ?_⟩
  · have frame := doneFrame_inFlight (b := b) ((heard_disp h s a).trans hc) hl hsr
    have held : (s.heard h).getRec c.record = some r := (heard_getRec ..).trans hr
    rw [← hp] at frame
    refine ⟨fun hb => run (frame.trans ?_), fun hb => run (frame.trans ?_), fun h1 h2 => run (frame.trans ?_)⟩
    · rw [if_pos hb, closeRec_some held, heard_records]
      rfl
    · rw [if_neg (by rw [hb]; decide), if_pos hb, holdRec_some held]
      rfl
    · rw [if_neg h1, if_neg h2]
  · rcases hn with hn | hn | ⟨c, hc, hne⟩
    · exact doneFrame_unasked (.inl hn)
    · exact doneFrame_unasked (.inr fun c => heard_disp h s a ▸ hn c)
    · exact doneFrame_otherSerial ((heard_disp h s a).trans hc) hne

/-! ## Arrivals (R144, R145, R148) -/

/-- The serial field of a TAG payload, whatever its numbers. -/
theorem tagFields_field {p field : List Byte} {maker model : Word16} {year tare : Nat} (hl : field.length = 17)
    (hp : p = tagPayload field maker model year tare) : ∃ t, tagFields p = some t ∧ t.field = field := by
  have length : p.length = 25 := by simp [hp, tagPayload, beBytes_two, hl]
  refine ⟨_, if_pos length, ?_⟩
  simp only [hp, tagPayload, List.append_assoc]
  exact List.take_left' hl

section arrival
variable {s : State} {a : Actuator} {addr : Byte} {p : List Byte}

theorem arrival_length (h : p.length ≠ 25) : s.arrival a addr p = (s.ignored, true) := by
  unfold State.arrival
  rw [show tagFields p = none from if_neg h]

/-- R144: no arrival is taken while the gate is closed or an order is in flight. -/
theorem arrival_waits (hl : p.length = 25) (h : s.dispatch.gate = .gateClosed ∨ s.dispatch.disp a ≠ .idle) :
    s.arrival a addr p = (s, false) := by
  unfold State.arrival
  rw [show tagFields p = some _ from if_pos hl]
  dsimp only
  split
  · rfl
  · exact if_pos (h.resolve_left ‹_›)

section admitted
variable {t : TagFields} (hp : tagFields p = some t) (hg : s.dispatch.gate = .gateOpen) (hd : s.dispatch.disp a = .idle)
include hp hg hd

theorem arrival_malformed (hs : serialOf t.field = none) : s.arrival a addr p = ((s.refuse a addr t.field).ignored, true) := by
  unfold State.arrival
  rw [hp]
  dsimp only
  rw [if_neg (by rw [hg]; decide), if_neg (not_not.mpr hd), hs]

theorem arrival_serial {sr : List Byte} (hs : serialOf t.field = some sr) :
    s.arrival a addr p = (s.arrivalOf a addr t.field sr, true) := by
  unfold State.arrival
  rw [hp]
  dsimp only
  rw [if_neg (by rw [hg]; decide), if_neg (not_not.mpr hd), hs]

end admitted

/-! ## The entry that an arrival names (R145) -/

theorem onList_none {sr : List Byte} (h : ∀ m ∈ s.dispatch.list a, ∀ q, s.getRec m = some q → q.serial ≠ sr) :
    s.onList a sr = none := by
  unfold State.onList
  rw [List.find?_eq_none]
  intro m hm
  cases hq : s.getRec m with
  | none => simp
  | some q => simpa using h m hm q hq

section holds
variable {sr : List Byte} {n : RecNo} {r : Record} (h : s.Holds sr n r)
include h

theorem onList_absent (hn : n ∉ s.dispatch.list a) : s.onList a sr = none :=
  onList_none fun m hm q hq e => hn (h.2.2 m q hq e ▸ hm)

theorem onList_mem (hn : n ∈ s.dispatch.list a) : s.onList a sr = some n := by
  cases hf : s.onList a sr with
  | none =>
    have := List.find?_eq_none.mp hf n hn
    simp [h.1, h.2.1] at this
  | some m =>
    obtain ⟨-, q, hq, hserial⟩ := onList_spec hf
    rw [h.2.2 m q hq hserial]

end holds

theorem ahead_eq {n : RecNo} {l u v : List RecNo} (hl : l = u ++ n :: v) (hu : n ∉ u) : ahead n l = u := by
  subst hl
  unfold ahead
  rw [List.takeWhile_append_of_pos fun m hm => by simpa using ne_of_mem_of_not_mem hm hu, List.takeWhile_cons_of_neg (by simp),
    List.append_nil]

end arrival

/-! ## Entries passed by (R145, R146) -/

namespace State.SameLine
variable {s t : State}

theorem updDispatch (h : s.SameLine t) (f : DispatchUnit → DispatchUnit) : s.SameLine (t.updDispatch f) :=
  ⟨h.clock, h.port, h.roles, h.cuts, h.pending, h.mgmt⟩

theorem updRecords (h : s.SameLine t) (f : RecordTable → RecordTable) : s.SameLine (t.updRecords f) :=
  ⟨h.clock, h.port, h.roles, h.cuts, h.pending, h.mgmt⟩

theorem calendar (h : s.SameLine t) : t.mgmt.calendar = s.mgmt.calendar := congrArg (·.2.2.2.1) h.mgmt

theorem latched (h : s.SameLine t) : t.mgmt.latched = s.mgmt.latched := congrArg (·.2.2.1) h.mgmt

theorem passBy (h : s.SameLine t) (a : Actuator) (m : RecNo) : s.SameLine (t.passBy a m) := by
  unfold State.passBy
  split
  · split
    · unfold State.declareLost
      split
      · exact ((((h.updDispatch _).modRec _ _).updRecords _).tally _).offerNotice _
      · exact h
    · exact h.modRec _ _
  · exact h

/-- R145: the entries ahead passed by. -/
theorem passByAll (a : Actuator) (l : List RecNo) (h : s.SameLine t) : s.SameLine (l.foldl (State.passBy a) t) := by
  induction l generalizing t with
  | nil => exact h
  | cons m l ih => exact ih (h.passBy a m)

end State.SameLine

theorem getRec_passByAll {a : Actuator} {n : RecNo} {l : List RecNo} (hn : n ∉ l) (s : State) :
    (l.foldl (State.passBy a) s).getRec n = s.getRec n := by
  induction l generalizing s with
  | nil => rfl
  | cons m l ih =>
    obtain ⟨hm, hl⟩ := not_or.mp (mt List.mem_cons.mpr hn)
    exact (ih hl _).trans ((State.Lawful.passBy_others (s := s) a m).2.2 n hm)

section passBy
variable {t : State} {m : RecNo} {q : Record} (a : Actuator) (hq : t.getRec m = some q)
include hq

theorem passBy_raises (h : q.passedBy < 7) : t.passBy a m = t.putRec m (some { q with passedBy := q.passedBy + 1 }) := by
  unfold State.passBy
  rw [hq]
  dsimp only
  rw [if_neg h.not_ge, modRec_some hq]

/-- R146: an entry passed by for the eighth time is LOST. -/
theorem passBy_lost (h : 7 ≤ q.passedBy) : t.passBy a m = (State.tally .lost { t with
    records := { t.records with
      table := t.records.table.set m.val (some { q with state := .lost }) m.isLt, closed := t.records.closed ++ [m] }
    dispatch := t.dispatch.setList a ((t.dispatch.list a).filter fun k => k != m) }).offerNotice
      (.lost m q.serial q.verdict a.listId) := by
  unfold State.passBy
  rw [hq]
  dsimp only
  rw [if_pos h, State.declareLost, hq]
  dsimp only
  rw [closeRec_some (s := t.dropFromList a m) hq]
  rfl

end passBy

/-! ## What an arrival comes to (R145, R148) -/

section comes
variable {s : State} {a : Actuator} {addr : Byte} {field sr : List Byte}

theorem arrivalOf_refused (h : s.onList a sr = none) (ho : s.onList a.other sr = none) :
    s.arrivalOf a addr field sr = (s.refuse a addr field).ignored := by
  unfold State.arrivalOf State.unmatched
  rw [h]
  dsimp only
  rw [ho]

/-- R148: a record of the other list is held as misrouted. -/
theorem arrivalOf_misrouted {n : RecNo} {r : Record} (h : s.onList a sr = none) (ho : s.onList a.other sr = some n)
    (hr : s.getRec n = some r) : s.arrivalOf a addr field sr
      = State.refuse a addr field { s.putRec n (some { r with state := .hold, holdReason := some .misroute }) with
          dispatch := s.dispatch.setList a.other ((s.dispatch.list a.other).filter fun m => m != n) } := by
  unfold State.arrivalOf State.unmatched
  rw [h]
  dsimp only
  rw [ho]
  dsimp only
  rw [holdRec_some (s := s.dropFromList a.other n) hr]
  rfl

/-- R145: the entries ahead are passed by, and the record is ordered at the actuator. -/
theorem arrivalOf_matched {n : RecNo} {r : Record} {u v : List RecNo} (h : s.Holds sr n r)
    (hl : s.dispatch.list a = u ++ n :: v) (hu : n ∉ u) :
    s.arrivalOf a addr field sr = (u.foldl (State.passBy a) s).matched a addr n r := by
  unfold State.arrivalOf
  rw [onList_mem h (hl ▸ List.mem_append_right u List.mem_cons_self)]
  dsimp only
  rw [ahead_eq hl hu, getRec_passByAll hu, h.1]

theorem matched_eq {n : RecNo} {r : Record} (hr : s.getRec n = some r) : s.matched a addr n r
    = { (s.putRec n (some { r with state := a.atState })).offer a.src addr (.order (s.actOrder a r)) with
        dispatch := (s.dispatch.setList a ((s.dispatch.list a).filter fun m => m != n)).setDisp a
          (.acting ⟨n, r.serial, r.openSeq, afterSecs s.clock a.deadlineSecs⟩) } := by
  unfold State.matched
  rw [modRec_some (s := s.dropFromList a n) hr]
  rfl

end comes

/-- Settles O59: the checks of an arrival in order, then the entry that its serial names. -/
theorem arrivalAtAnActuator : Obligations.ArrivalAtAnActuator := by
  refine ⟨rfl, rfl, fun s x => rfl, fun a s h p hs => ?_⟩
  intro c x becomes refused
  have list (b : Actuator) : x.dispatch.list b = s.dispatch.list b := heard_list h s b
  have disp : x.dispatch.disp a = s.dispatch.disp a := heard_disp h s a
  have gate : x.dispatch.gate = s.dispatch.gate := by rw [heard_dispatch]
  have recs (m : RecNo) : x.getRec m = s.getRec m := heard_getRec h s m
  have run {t : State} {taken : Bool} (ht : x.arrival a h.src p = (t, taken)) :
      exec c s = .next (t.passOn (frameTo s h 1 p) taken) := by
    have arrived : exec c s = .next (s.arrive (some (frameTo s h 1 p))) := by cases a <;> rfl
    rw [arrived]
    refine congrArg Host.Outcome.next ((arrive_arrival a hs).trans ?_)
    rw [ht]; rfl
  refine ⟨fun hl => run (arrival_length hl), fun hl hw => run (arrival_waits hl (by rwa [gate, disp])),
    fun hg hd field maker model year tare hp hl => ?_, fun t m q hq => ⟨passBy_raises a hq, passBy_lost a hq⟩⟩
  obtain ⟨t, ht, hfield⟩ := tagFields_field hl hp
  have idle : x.dispatch.disp a = .idle := disp.trans hd
  have opened : x.dispatch.gate = .gateOpen := gate.trans hg
  refine ⟨fun hn => run ?_, fun sr hsr => ?_⟩
  · rw [arrival_malformed ht opened idle (by rwa [hfield]), hfield]
    rfl
  have admitted : x.arrival a h.src p = (x.arrivalOf a h.src field sr, true) := by
    rw [arrival_serial ht opened idle (by rwa [hfield]), hfield]
  have holds {n : RecNo} {r : Record} (hh : s.Holds sr n r) : x.Holds sr n r :=
    ⟨(recs n).trans hh.1, hh.2.1, fun m q hq => hh.2.2 m q ((recs m).symm.trans hq)⟩
  refine ⟨fun hno => run ?_, fun n r hh hother hself => run ?_, fun n r u v cal why hh hlist hu hcal hwhy => ?_⟩
  · have absent (b : Actuator) : x.onList b sr = none := by
      refine onList_none fun m hm q hq => hno m ?_ q ((recs m).symm.trans hq)
      rw [list b] at hm
      cases b
      · exact List.mem_append_left _ hm
      · exact List.mem_append_right _ hm
    rw [admitted, arrivalOf_refused (absent a) (absent a.other)]
    rfl
  · rw [admitted, arrivalOf_misrouted (onList_absent (holds hh) (list a ▸ hself)) (onList_mem (holds hh) (list a.other ▸ hother))
      ((recs n).trans hh.1), list a.other]
    rfl
  · intro order y ms
    have same : x.SameLine y := (State.SameLine.refl x).passByAll a u
    have ordered : y.actOrder a r = order := by
      have latched : y.mgmt.latched = s.mgmt.latched := same.latched.trans (by rw [heard_mgmt])
      have calendar : y.mgmt.calendar = s.mgmt.calendar := same.calendar.trans (by rw [heard_mgmt])
      obtain rfl := hh.2.1
      cases a
      · simp [State.actOrder, order, latched, calendar, hcal rfl]
      · simp [State.actOrder, order, hwhy rfl, Verdict.reason]
    have clock : y.clock = s.clock := same.clock.trans (heard_clock h s)
    refine run (admitted.trans ?_)
    rw [arrivalOf_matched (holds hh) ((list a).trans hlist) hu, matched_eq ((getRec_passByAll hu x).trans ((recs n).trans hh.1)),
      ordered, clock, hh.2.1]
    cases a <;> rfl

end Sys2Proof.Machine
end


section
/-!
PROOFS. A test that ring loss ends after its first ramp step: what the verdict leaves while the ring is DOWN (R27, R85, R136,
R184).
-/

namespace Sys2Proof.Machine

/-! ## The judged record -/

/-- R119: the verdict of a test that ring loss ends. -/
def State.lossVerdict (r : Record) (s : State) : Verdict :=
  if r.findings &&& (s.typeEntry r).condemnMask ≠ 0 then .condemn .finding else .retest .ringLoss

/-- R28, R128: a record held without its bank. -/
def Record.heldAs (why : HoldReason) (r : Record) : Record := { r with bank := none, state := .hold, holdReason := some why }

/-- R124, R125, R136: the record as the verdict of ring loss leaves it. -/
def State.lossRecord (r : Record) (s : State) : Record :=
  let q := { r with seatedFrom := none, verdict := some (s.lossVerdict r) }
  if r.findings &&& (s.typeEntry r).condemnMask ≠ 0 then
    if 32 ≤ s.dispatch.scrapList.length then q.heldAs .listFull
    else if s.online .scrapCell = false then q.heldAs .scrapOffline
    else if s.dispatch.routes.length < 4 then { q with bank := none, state := .scrapPending, passedBy := 0 }
    else q.heldAs .routeUnconfirmed
  else if 0 < r.retestsLeft then { q with state := .retestWait, retestsLeft := r.retestsLeft - 1 }
  else q.heldAs .retestsExhausted

/-- R137: the lane that the new state of a judged record gives. -/
def laneFor : RecState → Lane
  | .retestWait => .test
  | .scrapPending => .scrap
  | _ => .hold

/-- R137: the lane order of a record by its state. -/
def Record.laneOrder (n : RecNo) (x : Record) : RouteEntry := ⟨x.serial, laneFor x.state, some (n, x.openSeq)⟩

/-- R137: the Route FIFO with an entry placed where it has room. -/
def roomFor (l : List RouteEntry) (e : RouteEntry) : List RouteEntry := if l.length < 4 then l ++ [e] else l

/-- The state that the verdict `v` of record `n`, `r` before it and `x` after it, leaves while the ring is DOWN. -/
def State.judgedAs (n : RecNo) (r x : Record) (v : Verdict) (s : State) : State :=
  ((s.disposed n x (if x.bank = none then s.banks.dropRef r.bank else s.banks) { s.dispatch with
      scrapList := s.dispatch.scrapList ++ (if x.state = .scrapPending then [n] else [])
      routes := roomFor s.dispatch.routes (x.laneOrder n) }).tally .dropped).tally v.tally

theorem lossRecord_verdict (s : State) (r : Record) : (s.lossRecord r).verdict = some (s.lossVerdict r) := by
  unfold State.lossRecord Record.heldAs; dsimp only; split_ifs <;> rfl

theorem lossVerdict_kind (s : State) (r : Record) :
    s.lossVerdict r = .condemn .finding ∨ s.lossVerdict r = .retest .ringLoss := by
  unfold State.lossVerdict; split
  · exact .inl rfl
  · exact .inr rfl

/-! ## The verdict given (R27) -/

theorem offerNotice_down {s : State} (h : s.port.monitor = .down) (x : Notice) : s.offerNotice x = s.tally .dropped :=
  if_neg fun hup => by rw [h] at hup; cases hup.1

theorem order_eq (d : DispatchUnit) (n : RecNo) {x : Record} {lane : Lane} (h : laneFor x.state = lane) :
    d.order n x lane = { d with routes := roomFor d.routes (x.laneOrder n) } := by
  subst h
  unfold DispatchUnit.order roomFor; split <;> rfl

section given
variable {s : State} {n : RecNo} {r : Record}

theorem judgedAs_held {x : Record} (v : Verdict) (hb : x.bank = none) (hst : x.state = .hold) : s.judgedAs n r x v
    = ((s.disposed n x (s.banks.dropRef r.bank) (s.dispatch.order n x .hold)).tally .dropped).tally v.tally := by
  rw [order_eq s.dispatch n (by rw [hst]; rfl), State.judgedAs, if_pos hb, hst, if_neg (by decide), List.append_nil]

theorem judgedAs_listed {x : Record} (v : Verdict) (hb : x.bank = none) (hst : x.state = .scrapPending) : s.judgedAs n r x v
    = ((s.disposed n x (s.banks.dropRef r.bank) ((s.dispatch.setList .scrapCell (s.dispatch.scrapList ++ [n])).order n x .scrap)).tally
        .dropped).tally v.tally := by
  rw [order_eq _ n (by rw [hst]; rfl), State.judgedAs, if_pos hb, hst, if_pos rfl]
  rfl

theorem judgedAs_retest {x : Record} (v : Verdict) (hb : x.bank = r.bank) (hst : x.state = .retestWait) : s.judgedAs n r x v
    = ((s.disposed n x s.banks (s.dispatch.order n x .test)).tally .dropped).tally v.tally := by
  have banks : (if x.bank = none then s.banks.dropRef r.bank else s.banks) = s.banks := by
    rw [hb]
    split
    case isTrue h => rw [h]; rfl
    case isFalse => rfl
  rw [order_eq s.dispatch n (by rw [hst]; rfl), State.judgedAs, banks, hst, if_neg (by decide), List.append_nil]

/-- R27: the verdict of ring loss, its notice dropped (R184). -/
theorem giveVerdict_loss (hm : s.port.monitor = .down) (hr : s.getRec n = some r) (figures : Bool) :
    s.giveVerdict n (s.lossVerdict r) figures = s.judgedAs n r (s.lossRecord r) (s.lossVerdict r) := by
  let q := { r with verdict := some (s.lossVerdict r), seatedFrom := none }
  let w := s.putRec n (some q)
  have hw : w.getRec n = some q := getRec_putRec_self ..
  have gives {x : Record} {k : TypeBanks} {d : DispatchUnit} (hd : w.disposeRec n (s.lossVerdict r) = w.disposed n x k d) :
      s.giveVerdict n (s.lossVerdict r) figures = ((s.disposed n x k d).tally .dropped).tally (s.lossVerdict r).tally := by
    rw [giveVerdict_of_dispose hr figures (hd.trans (disposed_putRec ..)), offerNotice_down (s := s.disposed n x k d) hm]
  have holds {why : HoldReason} (hd : w.disposeRec n (s.lossVerdict r) = w.heldFor n q why) :
      s.giveVerdict n (s.lossVerdict r) figures = s.judgedAs n r (q.heldAs why) (s.lossVerdict r) :=
    (gives hd).trans (judgedAs_held _ rfl rfl).symm
  by_cases hf : r.findings &&& (s.typeEntry r).condemnMask ≠ 0
  · have verdict : s.lossVerdict r = .condemn .finding := if_pos hf
    have disposes : w.disposeRec n (s.lossVerdict r) = (w.releaseRef n).appendList .scrapCell n := by rw [verdict]; rfl
    unfold State.lossRecord
    dsimp only
    rw [if_pos hf]
    by_cases hl : 32 ≤ s.dispatch.scrapList.length
    · rw [if_pos hl]
      exact holds (disposes.trans (append_full hw hl))
    rw [if_neg hl]
    by_cases ho : s.online .scrapCell = false
    · rw [if_pos ho]
      exact holds (disposes.trans (append_offline hw (not_le.mp hl) ho))
    rw [if_neg ho]
    by_cases hroom : s.dispatch.routes.length < 4
    · rw [if_pos hroom]
      exact (gives (disposes.trans (append_listed hw (not_le.mp hl) (Bool.eq_true_of_not_eq_false ho) hroom))).trans
        (judgedAs_listed _ rfl rfl).symm
    · rw [if_neg hroom]
      exact holds (disposes.trans (append_unconfirmed hw (not_le.mp hl) (Bool.eq_true_of_not_eq_false ho) hroom))
  · have verdict : s.lossVerdict r = .retest .ringLoss := if_neg hf
    have disposes : w.disposeRec n (s.lossVerdict r) = w.retestRec n := by rw [verdict]; rfl
    unfold State.lossRecord
    dsimp only
    rw [if_neg hf]
    by_cases hb : 0 < r.retestsLeft
    · rw [if_pos hb]
      exact (gives (disposes.trans (retestRec_budget hw hb))).trans (judgedAs_retest _ rfl rfl).symm
    · rw [if_neg hb]
      exact holds (disposes.trans (retestRec_spent hw (Nat.eq_zero_of_not_pos hb)))

end given

end Sys2Proof.Machine
end


section
/-!
PROOFS. Ring loss block by block: what the ended tests and the Dispatch Unit's own loss leave as it was (R85, R156, R171).
-/

namespace Sys2Proof.Machine

/-! ## What tests ended at ring loss keep -/

/-- From `s` to `t` tests of the records `ns` at most have ended at ring loss: what is kept, and what may join the Route FIFO
and the Scrap List. -/
structure State.LossKept (ns : List RecNo) (s t : State) : Prop where
  line : s.SameLine t
  records : ∀ n, n ∉ ns → t.getRec n = s.getRec n
  table : (t.records.closed, t.records.openCount) = (s.records.closed, s.records.openCount)
  banks : ∀ k, ((t.banks.get k).typeTable, (t.banks.get k).matchTable, (t.banks.get k).gen)
    = ((s.banks.get k).typeTable, (s.banks.get k).matchTable, (s.banks.get k).gen)
  notices : t.mgmt.notices = s.mgmt.notices
  dispatch : ∃ l m, (∀ e ∈ l, e.record ≠ none) ∧ (l.filterMap fun e => e.record.map (·.1)).Sublist ns ∧ m.Sublist ns
    ∧ t.dispatch = { s.dispatch with routes := s.dispatch.routes ++ l, scrapList := s.dispatch.scrapList ++ m }

theorem State.SameLine.trans {s t u : State} (h : s.SameLine t) (h' : t.SameLine u) : s.SameLine u :=
  ⟨h'.clock.trans h.clock, h'.port.trans h.port, h'.roles.trans h.roles, h'.cuts.trans h.cuts, h'.pending.trans h.pending,
    h'.mgmt.trans h.mgmt⟩

/-- R14: a reference is released in the bank it names. -/
theorem get_dropRef (t : TypeBanks) (o : Option BankRef) (k : BankId) :
    (t.dropRef o).get k = if o.any (fun b => b.bank == k) = true then (t.get k).release else t.get k := by
  cases o with
  | none => rfl
  | some b =>
    rw [TypeBanks.dropRef, get_set]
    by_cases h : k = b.bank <;> simp [h, Ne.symm]

namespace State.LossKept
variable {s t u : State} {ns ms : List RecNo}

/-- Nothing joins where the Dispatch Unit is as it was. -/
theorem of_dispatch (line : s.SameLine t) (records : ∀ n, n ∉ ns → t.getRec n = s.getRec n)
    (table : (t.records.closed, t.records.openCount) = (s.records.closed, s.records.openCount)) (banks : t.banks = s.banks)
    (notices : t.mgmt.notices = s.mgmt.notices) (dispatch : t.dispatch = s.dispatch) : s.LossKept ns t where
  line := line
  records := records
  table := table
  banks := fun k => by rw [banks]
  notices := notices
  dispatch := ⟨[], [], by simp, by simp, by simp, by simp [dispatch]⟩

theorem refl (ns : List RecNo) (s : State) : s.LossKept ns s := of_dispatch (.refl s) (fun _ _ => rfl) rfl rfl rfl rfl

theorem trans (h : s.LossKept ns t) (h' : t.LossKept ms u) : s.LossKept (ns ++ ms) u where
  line := h.line.trans h'.line
  records := fun n hn => by
    obtain ⟨hns, hms⟩ := not_or.mp (mt List.mem_append.mpr hn)
    rw [h'.records n hms, h.records n hns]
  table := h'.table.trans h.table
  banks := fun k => (h'.banks k).trans (h.banks k)
  notices := h'.notices.trans h.notices
  dispatch := by
    obtain ⟨l, m, hl, hls, hms, hd⟩ := h.dispatch
    obtain ⟨l', m', hl', hls', hms', hd'⟩ := h'.dispatch
    refine ⟨l ++ l', m ++ m', fun e he => (List.mem_append.mp he).elim (hl e) (hl' e), ?_, hms.append hms', ?_⟩
    · rw [List.filterMap_append]
      exact hls.append hls'
    · rw [hd', hd]
      simp only [List.append_assoc]

theorem updStation (h : s.LossKept ns t) (i : StationNo) (f : Station → Station) : s.LossKept ns (t.updStation i f) :=
  ⟨h.line.updStation i f, h.records, h.table, h.banks, h.notices, h.dispatch⟩

theorem modRec (s : State) (n : RecNo) (f : Record → Record) : s.LossKept [n] (s.modRec n f) := by
  unfold State.modRec
  split
  · refine of_dispatch ⟨rfl, rfl, rfl, rfl, rfl, rfl⟩ (fun m hm => ?_) rfl rfl rfl rfl
    exact getRec_putRec_ne s (fun e => hm (List.mem_singleton.mpr e.symm)) _
  · exact refl ..

theorem judgedAs (s : State) (n : RecNo) (r x : Record) (v : Verdict) : s.LossKept [n] (s.judgedAs n r x v) where
  line := ⟨rfl, rfl, rfl, rfl, rfl, rfl⟩
  records := fun m hm => getRec_putRec_ne s (fun e => hm (List.mem_singleton.mpr e.symm)) _
  table := rfl
  banks := fun k => by
    have banks : (s.judgedAs n r x v).banks = if x.bank = none then s.banks.dropRef r.bank else s.banks := rfl
    rw [banks]
    split
    · rw [get_dropRef]; split <;> rfl
    · rfl
  notices := rfl
  dispatch := by
    have listed : (if x.state = .scrapPending then [n] else []).Sublist [n] := by split <;> simp
    by_cases h : s.dispatch.routes.length < 4
    · refine ⟨[x.laneOrder n], _, by simp [Record.laneOrder], by simp [Record.laneOrder], listed, ?_⟩
      rw [← show roomFor s.dispatch.routes (x.laneOrder n) = _ from if_pos h]
      rfl
    · refine ⟨[], _, by simp, by simp, listed, ?_⟩
      rw [List.append_nil, ← show roomFor s.dispatch.routes (x.laneOrder n) = _ from if_neg h]
      rfl

end State.LossKept

/-! ## A test ended at ring loss (R85) -/

section ended
variable {s : State} {i : StationNo}

/-- R119, R121: past its first ramp step a test is judged. -/
theorem endTest_judged {n : RecNo} {r : Record} (hm : s.port.monitor = .down) (ht : s.Tests i n r)
    (h : (s.station i).state ≠ .seated) :
    s.endTest i .ringLoss = (s.judgedAs n r (s.lossRecord r) (s.lossVerdict r)).unlink i := by
  rw [endTest_later ht .ringLoss h, ← giveVerdict_loss hm ht.2 true]
  rfl

/-- A station that holds the number of no record ends nothing. -/
theorem endTest_free {n : RecNo} (hn : (s.station i).record = some n) (hr : s.getRec n = none) (why : Reason) :
    s.endTest i why = s.unlink i := by
  unfold State.endTest
  split
  · rw [hn]
    dsimp only
    unfold State.modRec
    rw [hr]
  · simp [State.concludeTest, State.testRec, hn, hr]

theorem endTest_kept (hm : s.port.monitor = .down) (i : StationNo) :
    s.LossKept (s.station i).record.toList (s.endTest i .ringLoss) := by
  cases hn : (s.station i).record with
  | none => rw [endTest_none _ hn]; exact .refl ..
  | some n =>
    cases hr : s.getRec n with
    | none => rw [endTest_free hn hr]; exact (State.LossKept.refl ..).updStation i _
    | some r =>
      by_cases hst : (s.station i).state = .seated
      · rw [endTest_seated ⟨hn, hr⟩ _ hst, ← modRec_some hr]
        exact (State.LossKept.modRec ..).updStation i _
      · rw [endTest_judged hm ⟨hn, hr⟩ hst]
        exact (State.LossKept.judgedAs ..).updStation i _

theorem stationLoss_kept (hm : s.port.monitor = .down) (i : StationNo) :
    s.LossKept (s.station i).record.toList (s.stationLoss i) := by
  unfold State.stationLoss
  split
  · exact (endTest_kept hm i).updStation i _
  · exact .refl ..

/-- R85: each watched station goes to RESYNC. -/
theorem station_stationLoss (s : State) (i j : StationNo) : (s.stationLoss i).station j
    = if i = j ∧ (s.station j).state.watched = true then (s.station j).resynced else s.station j := by
  unfold State.stationLoss
  by_cases h : i = j
  · subst h
    by_cases hw : (s.station i).state.watched = true
    · rw [if_pos hw, if_pos ⟨rfl, hw⟩, station_updStation_self, station_endTest]
      rfl
    · rw [if_neg hw, if_neg fun hc => hw hc.2]
  · rw [if_neg (c := i = j ∧ _) fun hc => h hc.1]
    split
    · rw [station_updStation_ne _ h, station_endTest_ne _ h]
    · rfl

end ended

/-! ## All the stations (R85) -/

/-- R85: the stations of a list at ring loss, in its order. -/
def State.losses (l : List StationNo) (s : State) : State := l.foldl State.stationLoss s

/-- R65: the records of the tests that the stations of a list hold. -/
def State.testedOf (l : List StationNo) (s : State) : List RecNo := l.filterMap fun i => (s.station i).record

theorem station_losses {l : List StationNo} (hl : l.Nodup) (s : State) (j : StationNo) : (s.losses l).station j
    = if j ∈ l ∧ (s.station j).state.watched = true then (s.station j).resynced else s.station j := by
  induction l generalizing s with
  | nil => rw [if_neg fun h => by cases h.1]; rfl
  | cons i l ih =>
    obtain ⟨hi, hl⟩ := List.nodup_cons.mp hl
    refine (ih hl (s.stationLoss i)).trans ?_
    rw [station_stationLoss]
    rcases eq_or_ne i j with rfl | hij
    · simp [hi]
    · simp [hij, hij.symm]

/-- A station outside the list keeps its test. -/
theorem testedOf_stationLoss {l : List StationNo} {i : StationNo} (hi : i ∉ l) (s : State) :
    (s.stationLoss i).testedOf l = s.testedOf l := by
  refine List.filterMap_congr fun j hj => ?_
  rw [station_stationLoss, if_neg (c := i = j ∧ _) fun h => hi (h.1 ▸ hj)]

theorem losses_kept {l : List StationNo} (hl : l.Nodup) {s : State} (hm : s.port.monitor = .down) :
    s.LossKept (s.testedOf l) (s.losses l) := by
  induction l generalizing s with
  | nil => exact .refl ..
  | cons i l ih =>
    obtain ⟨hi, hl⟩ := List.nodup_cons.mp hl
    have first := stationLoss_kept hm i
    have rest := ih hl (s := s.stationLoss i) (first.line.port ▸ hm)
    rw [testedOf_stationLoss hi] at rest
    have both := first.trans rest
    have tested : s.testedOf (i :: l) = (s.station i).record.toList ++ s.testedOf l := by
      unfold State.testedOf
      cases h : (s.station i).record <;> simp [h]
    rw [tested]
    exact both

theorem losses_append (l l' : List StationNo) (s : State) : s.losses (l ++ l') = (s.losses l).losses l' := List.foldl_append ..

/-! ## The dispatchers (R156) -/

/-- R156: what ring loss does to one actuator's dispatcher: it is idle, and the record of its order is held. -/
theorem actLoss_spec (s : State) (a : Actuator) : ∃ table : Vector (Option Record) 128,
    s.actLoss a = { s with dispatch := s.dispatch.setDisp a .idle, records := { s.records with table := table } }
      ∧ (∀ n : RecNo, (∀ c, s.dispatch.disp a = .acting c → c.record ≠ n) → table[n] = s.getRec n)
      ∧ ∀ c r, s.dispatch.disp a = .acting c → s.getRec c.record = some r →
        table[c.record] = some { r with state := .hold, holdReason := some a.unconfirmedReason } := by
  unfold State.actLoss
  split
  case h_1 c hc =>
    cases hr : s.getRec c.record with
    | none =>
      refine ⟨s.records.table, ?_, fun _ _ => rfl, fun c' r hc' hr' => ?_⟩
      · unfold State.holdRec State.modRec
        rw [hr]
        rfl
      · rw [hc] at hc'
        cases hc'
        rw [hr] at hr'
        cases hr'
    | some r =>
      refine ⟨_, by rw [holdRec_some hr]; rfl, fun n hn => getRec_putRec_ne s (hn c hc) _, fun c' r' hc' hr' => ?_⟩
      rw [hc] at hc'
      cases hc'
      rw [hr] at hr'
      cases hr'
      exact getRec_putRec_self ..
  case h_2 hc => exact ⟨s.records.table, rfl, fun _ _ => rfl, fun c r h => by rw [hc] at h; cases h⟩
  case h_3 hc =>
    refine ⟨s.records.table, ?_, fun _ _ => rfl, fun c r h => by rw [hc] at h; cases h⟩
    have same : s.dispatch.setDisp a .idle = s.dispatch := by
      cases a <;> rw [← hc] <;> rfl
    rw [same]

/-- R156: the Dispatch Unit at ring loss. -/
theorem dispatchLoss_spec (s : State) : ∃ table : Vector (Option Record) 128,
    s.dispatchLoss = { s with
      records := { s.records with table := table }
      dispatch := { s.dispatch with
        markD := .idle, scrapD := .idle, routeD := .idle, markStale := false, scrapStale := false, routeStale := false } }
      ∧ (∀ n : RecNo, (∀ a c, s.dispatch.disp a = .acting c → c.record ≠ n) → table[n] = s.getRec n)
      ∧ ∀ a c r, s.dispatch.disp a = .acting c → s.getRec c.record = some r →
        (∀ b d, s.dispatch.disp b = .acting d → d.record = c.record → b = a) →
        table[c.record] = some { r with state := .hold, holdReason := some a.unconfirmedReason } := by
  obtain ⟨first, hfirst, kept, held⟩ := actLoss_spec s .press
  obtain ⟨second, hsecond, kept', held'⟩ := actLoss_spec (s.actLoss .press) .scrapCell
  have recs (n : RecNo) : (s.actLoss .press).getRec n = first[n] := by rw [hfirst]; rfl
  have other : (s.actLoss .press).dispatch.disp .scrapCell = s.dispatch.disp .scrapCell := by rw [hfirst]; rfl
  rw [other] at kept' held'
  refine ⟨second, ?_, fun n hn => ?_, fun a c r hc hr hone => ?_⟩
  · unfold State.dispatchLoss
    rw [hsecond, hfirst]
    rfl
  · rw [kept' n (hn .scrapCell), recs, kept n (hn .press)]
  · cases a
    · rw [kept' c.record (fun d hd e => by cases hone .scrapCell d hd e), recs]
      exact held c r hc hr
    · refine held' c r hc ?_
      rw [recs, kept c.record fun d hd e => by cases hone .press d hd e]
      exact hr

end Sys2Proof.Machine
end


section
/-!
PROOFS. The tests that ring loss judges, one after the other: the Route FIFO, the Scrap List, the banks and the tallies by
the records as they stand afterwards (R85, R130, R136, R137).
-/

namespace Sys2Proof.Machine

/-! ## Counts -/

/-- R182: a tally raised once for each of `k`. -/
def raisedBy (n k : Nat) : Nat := if k = 0 then n else min (n + k) 4294967295

theorem satAdd_raisedBy (n k m : Nat) : satAdd (raisedBy n k) m = min (n + k + m) 4294967295 := by
  unfold satAdd raisedBy
  split <;> omega

theorem raisedBy_succ (n k : Nat) : satAdd (raisedBy n k) 1 = raisedBy n (k + 1) := by
  rw [satAdd_raisedBy, raisedBy, if_neg (by omega), Nat.add_assoc]

/-- R137: the room of the Route FIFO goes to the entries in their order. -/
theorem roomFor_take (base l : List RouteEntry) (e : RouteEntry) :
    roomFor (base ++ l.take (4 - base.length)) e = base ++ (l ++ [e]).take (4 - base.length) := by
  unfold roomFor
  rcases Nat.lt_or_ge l.length (4 - base.length) with h | h
  · rw [List.take_of_length_le h.le, if_pos (by simp; omega), List.take_of_length_le (by simp; omega), List.append_assoc]
  · rw [if_neg (by simp; omega), List.take_append_of_le_length h]

theorem countP_concat {α : Type} (p : α → Bool) (l : List α) (a : α) : (l ++ [a]).countP p = l.countP p + (p a).toNat := by
  cases h : p a <;> simp [h]

/-! ## What the judged records tell -/

/-- R137: the lane order of a record as it stands. -/
def State.laneOrderOf (s : State) (n : RecNo) : Option RouteEntry := (s.getRec n).map (Record.laneOrder n)

/-- R135: the records of a list that wait for the scrap cell. -/
def State.scrapOf (l : List RecNo) (s : State) : List RecNo := l.filter fun n => s.stateOf n == some .scrapPending

def State.hasVerdict (s : State) (v : Verdict) (n : RecNo) : Bool := (s.getRec n).any fun x => x.verdict == some v

/-- R14: from `s` to `t` a record gave up its reference to a bank. -/
def State.gaveUp (s t : State) (k : BankId) (n : RecNo) : Bool :=
  (s.getRec n).any (fun x => x.bank.any fun b => b.bank == k) && (t.getRec n).any fun x => x.bank == none

/-- From `s` to `t` the records `js` have been judged at ring loss, in that order. -/
structure State.Judges (js : List RecNo) (s t : State) : Prop where
  found : ∀ n ∈ js, (t.getRec n).isSome
  routes : t.dispatch.routes = s.dispatch.routes ++ (js.filterMap t.laneOrderOf).take (4 - s.dispatch.routes.length)
  scrapList : t.dispatch.scrapList = s.dispatch.scrapList ++ t.scrapOf js
  refs : ∀ k, (t.banks.get k).refs = (s.banks.get k).refs - js.countP (s.gaveUp t k)
  banks : ∀ k, (t.banks.get k).state = if 0 < js.countP (s.gaveUp t k) ∧ (s.banks.get k).state = .retiring
    ∧ (t.banks.get k).refs = 0 then .standby else (s.banks.get k).state
  tallies : t.mgmt.tallies = { s.mgmt.tallies with
    condemn := raisedBy s.mgmt.tallies.condemn (js.countP (t.hasVerdict (.condemn .finding)))
    retest := raisedBy s.mgmt.tallies.retest (js.countP (t.hasVerdict (.retest .ringLoss)))
    dropped := raisedBy s.mgmt.tallies.dropped js.length }

namespace State.Judges
variable {s t u : State} {js : List RecNo}

theorem nil (s : State) : State.Judges [] s s where
  found := by simp
  routes := by simp
  scrapList := by simp [State.scrapOf]
  refs := by simp
  banks := by simp
  tallies := rfl

section same
variable (h : ∀ m ∈ js, u.getRec m = t.getRec m)
include h

theorem laneOrders_congr : js.filterMap u.laneOrderOf = js.filterMap t.laneOrderOf :=
  List.filterMap_congr fun m hm => by rw [State.laneOrderOf, h m hm]; rfl

theorem scrapOf_congr : u.scrapOf js = t.scrapOf js :=
  List.filter_congr fun m hm => by rw [State.stateOf, h m hm]; rfl

theorem countP_gaveUp_congr (s : State) (k : BankId) : js.countP (s.gaveUp u k) = js.countP (s.gaveUp t k) :=
  List.countP_congr fun m hm => by rw [State.gaveUp, State.gaveUp, h m hm]

theorem countP_hasVerdict_congr (v : Verdict) : js.countP (u.hasVerdict v) = js.countP (t.hasVerdict v) :=
  List.countP_congr fun m hm => by rw [State.hasVerdict, State.hasVerdict, h m hm]

/-- What is not read by the judgement may change. -/
theorem congr (w : State.Judges js s t) (hd : u.dispatch = t.dispatch) (hb : u.banks = t.banks)
    (ht : u.mgmt.tallies = t.mgmt.tallies) : State.Judges js s u where
  found := fun n hn => by rw [h n hn]; exact w.found n hn
  routes := by rw [hd, laneOrders_congr h]; exact w.routes
  scrapList := by rw [hd, scrapOf_congr h]; exact w.scrapList
  refs := fun k => by rw [hb, countP_gaveUp_congr h]; exact w.refs k
  banks := fun k => by rw [hb, countP_gaveUp_congr h]; exact w.banks k
  tallies := by rw [ht, countP_hasVerdict_congr h, countP_hasVerdict_congr h]; exact w.tallies

end same

/-- R14, R18: one more reference given up, or not. -/
theorem bank_released {b c : Bank} {count : Nat} (gone : Bool) (hr : c.refs = b.refs - count)
    (hst : c.state = if 0 < count ∧ b.state = .retiring ∧ c.refs = 0 then .standby else b.state) :
    let d := if gone = true then c.release else c
    d.refs = b.refs - (count + gone.toNat)
      ∧ d.state = if 0 < count + gone.toNat ∧ b.state = .retiring ∧ d.refs = 0 then .standby else b.state := by
  cases gone with
  | false => exact ⟨hr, hst⟩
  | true =>
    refine ⟨by simp [Bank.release, hr]; omega, ?_⟩
    simp only [Bank.release, if_true, Bool.toNat_true, Nat.zero_lt_succ, true_and]
    by_cases hret : b.state = .retiring
    · by_cases hc : 0 < count ∧ c.refs = 0
      · simp [hst, hret, hc]
      · simp [hst, hret, hc]
    · simp [hst, hret]

/-- One more record judged. -/
theorem snoc (w : State.Judges js s t) {n : RecNo} {r x : Record} {v : Verdict} (hn : n ∉ js)
    (hs : s.getRec n = some r) (hx : x.verdict = some v) (hv : v = .condemn .finding ∨ v = .retest .ringLoss) :
    State.Judges (js ++ [n]) s (t.judgedAs n r x v) := by
  let u := t.judgedAs n r x v
  have self : u.getRec n = some x := getRec_putRec_self ..
  have past (m : RecNo) (hm : m ∈ js) : u.getRec m = t.getRec m :=
    getRec_putRec_ne t (ne_of_mem_of_not_mem hm hn).symm _
  have gone (k : BankId) : s.gaveUp u k n = (r.bank.any (fun b => b.bank == k) && (x.bank == none)) := by
    rw [State.gaveUp, hs, self]; rfl
  have bank (k : BankId) : u.banks.get k = if s.gaveUp u k n = true then (t.banks.get k).release else t.banks.get k := by
    have banks : u.banks = if x.bank = none then t.banks.dropRef r.bank else t.banks := rfl
    rw [banks, gone]
    by_cases hb : x.bank = none
    · rw [if_pos hb, get_dropRef, hb]; simp
    · rw [if_neg hb]; simp [hb]
  have count (k : BankId) : (js ++ [n]).countP (s.gaveUp u k) = js.countP (s.gaveUp t k) + (s.gaveUp u k n).toNat := by
    rw [countP_concat, countP_gaveUp_congr past]
  have verdicts (y : Verdict) : (js ++ [n]).countP (u.hasVerdict y) = js.countP (t.hasVerdict y) + (v == y).toNat := by
    rw [countP_concat, countP_hasVerdict_congr past, State.hasVerdict, self, Option.any_some, hx]
    rfl
  refine ⟨fun m hm => ?_, ?_, ?_, fun k => ?_, fun k => ?_, ?_⟩
  · rcases List.mem_append.mp hm with hm | hm
    · rw [past m hm]; exact w.found m hm
    · rw [List.mem_singleton.mp hm, self]; rfl
  · rw [List.filterMap_append, laneOrders_congr past]
    have last : [n].filterMap u.laneOrderOf = [x.laneOrder n] := by simp [State.laneOrderOf, self]
    rw [last, ← roomFor_take, ← w.routes]
    rfl
  · have last : u.scrapOf [n] = if x.state = .scrapPending then [n] else [] := by
      by_cases hx : x.state = .scrapPending <;> simp [State.scrapOf, State.stateOf, self, hx]
    have parts : u.scrapOf (js ++ [n]) = u.scrapOf js ++ u.scrapOf [n] := List.filter_append ..
    rw [parts, scrapOf_congr past, last, ← List.append_assoc, ← w.scrapList]
    rfl
  · rw [bank, count]
    exact (bank_released _ (w.refs k) (w.banks k)).1
  · rw [bank, count]
    exact (bank_released _ (w.refs k) (w.banks k)).2
  · have tallies : u.mgmt.tallies = (t.mgmt.tallies.add 1 .dropped).add 1 v.tally := rfl
    rw [tallies, w.tallies, verdicts, verdicts, List.length_append]
    have apart : ((.condemn .finding : Verdict) == .retest .ringLoss) = false := rfl
    have apart' : ((.retest .ringLoss : Verdict) == .condemn .finding) = false := rfl
    rcases hv with rfl | rfl
    · simp [Tallies.add, Verdict.tally, raisedBy_succ, apart]
    · simp [Tallies.add, Verdict.tally, raisedBy_succ, apart']

end State.Judges

/-! ## The judged tests of the stations (R65, R85) -/

/-- The records that ring loss judges at the stations of a list: those of the tests past SEATED. -/
def State.judgedOf (l : List StationNo) (s : State) : List RecNo :=
  l.filterMap fun i => if (s.station i).state = .seated then none else (s.station i).record

theorem judgedOf_sublist (l : List StationNo) (s : State) : ∀ n ∈ s.judgedOf l, n ∈ s.testedOf l := by
  intro n hn
  obtain ⟨i, hi, he⟩ := List.mem_filterMap.mp hn
  refine List.mem_filterMap.mpr ⟨i, hi, ?_⟩
  split at he
  · cases he
  · exact he

section law
variable {s : State} (law : s.TestLaw) (hm : s.port.monitor = .down)
include law

/-- R65, R66: a station that holds a record is watched, and the record stands. -/
theorem testLaw_tests {i : StationNo} {n : RecNo} (hn : (s.station i).record = some n) :
    (s.station i).state.watched = true ∧ ∃ r, s.Tests i n r := by
  obtain ⟨held, onTest, -⟩ := law
  have testing : (s.station i).testing = true := by rw [← held i, hn]; rfl
  refine ⟨inCycle_watched (Bool.and_elim_left testing), ?_⟩
  obtain ⟨r, hr, -⟩ := Option.map_eq_some_iff.mp (onTest i n hn)
  exact ⟨r, hn, hr⟩

theorem testLaw_apart {l : List StationNo} {i : StationNo} {n : RecNo} (hi : i ∉ l) (hn : (s.station i).record = some n) :
    n ∉ s.testedOf l := by
  obtain ⟨-, -, one, -⟩ := law
  intro hmem
  obtain ⟨j, hj, hrec⟩ := List.mem_filterMap.mp hmem
  exact hi (one i j n hn hrec ▸ hj)

include hm

/-- Before its own station's loss a test stands as it did. -/
theorem losses_tests {l : List StationNo} (hl : l.Nodup) {i : StationNo} {n : RecNo} {r : Record} (hi : i ∉ l)
    (ht : s.Tests i n r) : (s.losses l).Tests i n r ∧ (s.losses l).station i = s.station i := by
  have station : (s.losses l).station i = s.station i := by
    rw [station_losses hl, if_neg (c := i ∈ l ∧ _) fun h => hi h.1]
  refine ⟨⟨by rw [station]; exact ht.1, ?_⟩, station⟩
  rw [(losses_kept hl hm).records n (testLaw_apart law hi ht.1)]
  exact ht.2

theorem judges_losses {l : List StationNo} (hl : l.Nodup) : State.Judges (s.judgedOf l) s (s.losses l) := by
  induction l using List.reverseRecOn with
  | nil => exact .nil s
  | append_singleton l i ih =>
    obtain ⟨hl', -, hdisjoint⟩ := List.nodup_append.mp hl
    have hi : i ∉ l := fun h => hdisjoint i h i (List.mem_singleton_self i) rfl
    have before := ih hl'
    have last : s.losses (l ++ [i]) = (s.losses l).stationLoss i := losses_append ..
    have judged : s.judgedOf (l ++ [i]) = s.judgedOf l ++ s.judgedOf [i] := List.filterMap_append ..
    have down : (s.losses l).port.monitor = .down := by rw [(losses_kept hl' hm).line.port, hm]
    rw [last, judged]
    cases hn : (s.station i).record with
    | none =>
      have nothing : s.judgedOf [i] = [] := by simp [State.judgedOf, hn]
      have station : (s.losses l).station i = s.station i := by
        rw [station_losses hl', if_neg (c := i ∈ l ∧ _) fun h => hi h.1]
      rw [nothing, List.append_nil]
      unfold State.stationLoss
      split
      · rw [endTest_none _ (by rw [station]; exact hn)]
        exact State.Judges.congr (t := s.losses l) (fun _ _ => rfl) before rfl rfl rfl
      · exact before
    | some n =>
      obtain ⟨hw, r, ht⟩ := testLaw_tests law hn
      obtain ⟨ht', station⟩ := losses_tests law hm hl' hi ht
      have new : n ∉ s.judgedOf l := fun h => testLaw_apart law hi hn (judgedOf_sublist l s n h)
      unfold State.stationLoss
      rw [if_pos (by rw [station]; exact hw)]
      by_cases hst : (s.station i).state = .seated
      · have nothing : s.judgedOf [i] = [] := by simp [State.judgedOf, hst]
        rw [nothing, List.append_nil, endTest_seated ht' _ (by rw [station]; exact hst)]
        exact before.congr (fun m hm => getRec_putRec_ne _ (ne_of_mem_of_not_mem hm new).symm _) rfl rfl rfl
      · have one : s.judgedOf [i] = [n] := by simp [State.judgedOf, hst, hn]
        rw [one, endTest_judged down ht' (by rw [station]; exact hst)]
        have judges := before.snoc new ht.2 (lossRecord_verdict (s.losses l) r) (lossVerdict_kind (s.losses l) r)
        exact State.Judges.congr (t := (s.losses l).judgedAs n r _ _) (fun _ _ => rfl) judges rfl rfl rfl

/-- The record of a test is as its own station's loss leaves it. -/
theorem getRec_losses {l l' : List StationNo} {i : StationNo} (hl : (l ++ i :: l').Nodup) {n : RecNo} {r : Record}
    (ht : s.Tests i n r) : (s.losses (l ++ i :: l')).getRec n
      = some (if (s.station i).state = .seated then returned .ringLoss r else (s.losses l).lossRecord r) := by
  obtain ⟨hnd, hnd', hdisjoint⟩ := List.nodup_append.mp hl
  obtain ⟨hi', hnd'⟩ := List.nodup_cons.mp hnd'
  have hi : i ∉ l := fun h => hdisjoint i h i List.mem_cons_self rfl
  obtain ⟨ht', station⟩ := losses_tests law hm hnd hi ht
  have down : (s.losses l).port.monitor = .down := by rw [(losses_kept hnd hm).line.port, hm]
  have down' : ((s.losses l).stationLoss i).port.monitor = .down := by rw [(stationLoss_kept down i).line.port, down]
  have rest : s.losses (l ++ i :: l') = ((s.losses l).stationLoss i).losses l' := losses_append ..
  have later : ((s.losses l).stationLoss i).testedOf l' = s.testedOf l' := by
    rw [testedOf_stationLoss hi']
    refine List.filterMap_congr fun j hj => ?_
    rw [station_losses hnd, if_neg (c := j ∈ l ∧ _) fun h => hdisjoint j h.1 j (List.mem_cons_of_mem _ hj) rfl]
  rw [rest, (losses_kept hnd' down').records n (by rw [later]; exact testLaw_apart law hi' ht.1), State.stationLoss,
    if_pos (by rw [station]; exact (testLaw_tests law ht.1).1)]
  split
  case isTrue hst =>
    rw [endTest_seated ht' _ (by rw [station]; exact hst)]
    exact getRec_putRec_self ..
  case isFalse hst =>
    rw [endTest_judged down ht' (by rw [station]; exact hst)]
    exact getRec_putRec_self ..

end law

end Sys2Proof.Machine
end


section
/-!
PROOFS. Ring loss (R171).
-/

namespace Sys2Proof.Machine

/-! ## The judged record by its case (R124, R125, R136) -/

section lossRecord
variable {s : State} {r : Record}

section retest
variable (h : ¬ r.findings &&& (s.typeEntry r).condemnMask ≠ 0)
include h

theorem lossRecord_budget (hb : 0 < r.retestsLeft) : s.lossRecord r = { r with
    seatedFrom := none, verdict := some (.retest .ringLoss), state := .retestWait, retestsLeft := r.retestsLeft - 1 } := by
  unfold State.lossRecord State.lossVerdict
  rw [if_neg h, if_neg h, if_pos hb]

theorem lossRecord_spent (hb : r.retestsLeft = 0) : s.lossRecord r = { r with
    seatedFrom := none, verdict := some (.retest .ringLoss), state := .hold, holdReason := some .retestsExhausted
    bank := none } := by
  unfold State.lossRecord State.lossVerdict
  rw [if_neg h, if_neg h, if_neg (by omega)]
  rfl

end retest

/-- R136: the record of a CONDEMN FINDING, held or listed. -/
def Record.condemnedAs (st : RecState) (r : Record) : Record :=
  { r with seatedFrom := none, verdict := some (.condemn .finding), bank := none, state := st }

section condemn
variable (h : r.findings &&& (s.typeEntry r).condemnMask ≠ 0)
include h

theorem lossRecord_condemned : s.lossRecord r =
    if 32 ≤ s.dispatch.scrapList.length then { r.condemnedAs .hold with holdReason := some .listFull }
    else if s.online .scrapCell = false then { r.condemnedAs .hold with holdReason := some .scrapOffline }
    else if s.dispatch.routes.length < 4 then { r.condemnedAs .scrapPending with passedBy := 0 }
    else { r.condemnedAs .hold with holdReason := some .routeUnconfirmed } := by
  unfold State.lossRecord State.lossVerdict
  dsimp only
  rw [if_pos h, if_pos h]
  rfl

end condemn
end lossRecord

/-! ## What is judged by stays (R15, R134) -/

section kept
variable {ns : List RecNo} {s t : State} (h : s.LossKept ns t)
include h

theorem State.LossKept.typeEntry (r : Record) : t.typeEntry r = s.typeEntry r := by
  have tables (k : BankId) : (t.banks.get k).typeTable = (s.banks.get k).typeTable := congrArg (·.1) (h.banks k)
  unfold State.typeEntry
  simp only [tables]

theorem State.LossKept.online (a : Actuator) : t.online a = s.online a := by
  obtain ⟨l, m, -, -, -, hd⟩ := h.dispatch
  unfold State.online State.addrOf
  rw [h.line.roles, hd]
  cases a <;> rfl

theorem State.LossKept.disp (a : Actuator) : t.dispatch.disp a = s.dispatch.disp a := by
  obtain ⟨l, m, -, -, -, hd⟩ := h.dispatch
  rw [hd]
  cases a <;> rfl

end kept

/-! ## The whole loss (R171) -/

theorem lineSilent_iff (s : State) : s.lineSilent = true
    ↔ s.port.monitor = .up ∧ (s.clock - (s.port.lastActivity + 20)).toNat < 2147483648 := by
  unfold State.lineSilent
  rw [Bool.and_eq_true, beq_iff_eq, reached_iff]
  rfl

theorem State.SameLine.responder {s t : State} (h : s.SameLine t) : t.mgmt.responder = s.mgmt.responder :=
  congrArg (·.2.2.2.2) h.mgmt

/-- R85: the state once every station has lost the ring, the Ring Port's own loss before it. -/
@[irreducible] def State.lossAtStations (s : State) : State := (s.updPort RingPort.loss).losses (List.finRange 8)

theorem lossAtStations_kept (s : State) :
    (s.updPort RingPort.loss).LossKept ((s.updPort RingPort.loss).testedOf (List.finRange 8)) s.lossAtStations := by
  unfold State.lossAtStations
  exact losses_kept (List.nodup_finRange 8) rfl

/-- R156, R171, R186: after the stations the Dispatch Unit and the Management Responder. -/
theorem lose_spec (s : State) : ∃ table : Vector (Option Record) 128,
    s.lose = { s.lossAtStations with
      records := { s.lossAtStations.records with table := table }
      dispatch := { s.lossAtStations.dispatch with
        markD := .idle, scrapD := .idle, routeD := .idle, markStale := false, scrapStale := false, routeStale := false }
      mgmt := { s.lossAtStations.mgmt with
        tallies := s.lossAtStations.mgmt.tallies.add s.mgmt.notices.length .dropped
        notices := [], responder := s.mgmt.responder.loss } }
      ∧ (∀ n : RecNo, (∀ a c, s.dispatch.disp a = .acting c → c.record ≠ n) → table[n] = s.lossAtStations.getRec n)
      ∧ ∀ a c r, s.dispatch.disp a = .acting c → s.lossAtStations.getRec c.record = some r →
        (∀ b d, s.dispatch.disp b = .acting d → d.record = c.record → b = a) →
        table[c.record] = some { r with state := .hold, holdReason := some a.unconfirmedReason } := by
  have kept := lossAtStations_kept s
  have disp (a : Actuator) : s.lossAtStations.dispatch.disp a = s.dispatch.disp a := kept.disp a
  have notices : s.lossAtStations.mgmt.notices = s.mgmt.notices := kept.notices
  have responder : s.lossAtStations.mgmt.responder = s.mgmt.responder := kept.line.responder
  obtain ⟨table, he, hk, hh⟩ := dispatchLoss_spec s.lossAtStations
  simp only [disp] at hk hh
  refine ⟨table, ?_, hk, hh⟩
  have lose : s.lose = s.lossAtStations.dispatchLoss.mgmtLoss := by
    unfold State.lossAtStations
    rfl
  rw [lose, he, ← notices, ← responder]
  rfl

/-! ## Where a judged test stands among the others (R85) -/

section place
variable {s : State} (law : s.TestLaw) (hm : s.port.monitor = .down) {l l' : List StationNo} (hl : (l ++ l').Nodup)
include law hm hl

/-- The stations that come later leave the records of the earlier ones. -/
theorem getRec_losses_earlier {n : RecNo} (hn : n ∈ s.judgedOf l) : (s.losses (l ++ l')).getRec n = (s.losses l).getRec n := by
  obtain ⟨hnd, hnd', hdisjoint⟩ := List.nodup_append.mp hl
  have down : (s.losses l).port.monitor = .down := by rw [(losses_kept hnd hm).line.port, hm]
  have later : (s.losses l).testedOf l' = s.testedOf l' := by
    refine List.filterMap_congr fun j hj => ?_
    rw [station_losses hnd, if_neg (c := j ∈ l ∧ _) fun h => hdisjoint j h.1 j hj rfl]
  obtain ⟨j, hj, hrec⟩ := List.mem_filterMap.mp (judgedOf_sublist l s n hn)
  rw [losses_append, (losses_kept hnd' down).records n]
  rw [later]
  exact testLaw_apart law (fun h => hdisjoint j hj j h rfl) hrec

theorem scrapList_losses : (s.losses l).dispatch.scrapList
    = s.dispatch.scrapList ++ (s.losses (l ++ l')).scrapOf (s.judgedOf l) := by
  rw [State.Judges.scrapOf_congr fun n hn => getRec_losses_earlier law hm hl hn]
  exact (judges_losses law hm (List.nodup_append.mp hl).1).scrapList

omit hl in
/-- R137: the Route FIFO has room for each judged test in turn. -/
theorem routes_losses (hl : l.Nodup) :
    (s.losses l).dispatch.routes.length < 4 ↔ s.dispatch.routes.length + (s.judgedOf l).length < 4 := by
  have judges := judges_losses law hm hl
  have each : ((s.judgedOf l).filterMap (s.losses l).laneOrderOf).length = (s.judgedOf l).length := by
    rw [List.filterMap_length_eq_length]
    intro n hn
    rw [State.laneOrderOf, Option.isSome_map]
    exact judges.found n hn
  rw [judges.routes, List.length_append, List.length_take, each]
  omega

omit hl hm in
/-- The judged tests before and after a test past SEATED. -/
theorem judgedOf_split {i : StationNo} {n : RecNo} (hl : (l ++ i :: l').Nodup) (hn : (s.station i).record = some n)
    (hst : (s.station i).state ≠ .seated) {u v : List RecNo} (h : s.judgedOf (l ++ i :: l') = u ++ n :: v) :
    u = s.judgedOf l := by
  obtain ⟨-, hnd', hdisjoint⟩ := List.nodup_append.mp hl
  obtain ⟨hi', -⟩ := List.nodup_cons.mp hnd'
  have hi : i ∉ l := fun h => hdisjoint i h i List.mem_cons_self rfl
  have new {k : List StationNo} (hk : i ∉ k) : n ∉ s.judgedOf k :=
    fun h => testLaw_apart law hk hn (judgedOf_sublist k s n h)
  have parts : s.judgedOf (l ++ i :: l') = s.judgedOf l ++ n :: s.judgedOf l' := by
    unfold State.judgedOf
    rw [List.filterMap_append, List.filterMap_cons_some (by rw [if_neg hst, hn])]
  exact ((List.append_cons_inj_of_notMem (new hi) (new hi')).mp (parts.symm.trans h)).1.symm

end place

/-! ## The tests in the record law (R22, R65, R135, R143) -/

section law
variable {s : State} (law : s.RecordLaw)
include law

theorem recordLaw_tests : (s.updPort RingPort.loss).TestLaw := by
  obtain ⟨-, -, -, tests, -⟩ := law
  exact tests

/-- R143: the record of an order in flight is under no test, and under no other order. -/
theorem recordLaw_flight {a : Actuator} {c : InFlight} (hc : s.dispatch.disp a = .acting c) :
    s.stateOf c.record = some a.atState := by
  obtain ⟨-, -, -, -, press, scrap, -⟩ := law
  cases a
  · exact press.1 c hc
  · exact scrap.1 c hc

theorem acting_apart {a b : Actuator} {c d : InFlight} (hc : s.dispatch.disp a = .acting c) (hd : s.dispatch.disp b = .acting d)
    (h : d.record = c.record) : b = a := by
  have same : some b.atState = some a.atState := by
    rw [← recordLaw_flight law hc, ← recordLaw_flight law hd, h]
  cases a <;> cases b <;> simp [Actuator.atState] at same ⊢

theorem tested_apart {a : Actuator} {c : InFlight} (hc : s.dispatch.disp a = .acting c) (l : List StationNo) :
    c.record ∉ (s.updPort RingPort.loss).testedOf l := by
  intro hmem
  obtain ⟨i, -, hi⟩ := List.mem_filterMap.mp hmem
  obtain ⟨-, onTest, -⟩ := recordLaw_tests law
  have same : some RecState.onTest = some a.atState := (onTest i _ hi).symm.trans (recordLaw_flight law hc)
  cases a <;> cases same

/-- The tests judged at the stations. -/
theorem lossAtStations_judges :
    State.Judges ((s.updPort RingPort.loss).judgedOf (List.finRange 8)) (s.updPort RingPort.loss) s.lossAtStations := by
  unfold State.lossAtStations
  exact judges_losses (recordLaw_tests law) rfl (List.nodup_finRange 8)

end law

/-- The record of a test as ring loss leaves it, and where its station stands among the others. -/
theorem lossAtStations_getRec {s : State} (law : s.RecordLaw) {i : StationNo} {n : RecNo} {r : Record} (ht : s.Tests i n r) :
    ∃ l l', List.finRange 8 = l ++ i :: l' ∧ s.lossAtStations.getRec n = some (if (s.station i).state = .seated
      then returned .ringLoss r else ((s.updPort RingPort.loss).losses l).lossRecord r) := by
  obtain ⟨l, l', hl⟩ := List.append_of_mem (List.mem_finRange i)
  refine ⟨l, l', hl, ?_⟩
  unfold State.lossAtStations
  rw [hl]
  exact getRec_losses (recordLaw_tests law) rfl (hl ▸ List.nodup_finRange 8) ht

/-- R136: a condemned test's record, by the Scrap List and the Route FIFO as the tests before it leave them. -/
theorem lossAtStations_condemned {s : State} (law : s.RecordLaw) {i : StationNo} {n : RecNo} {r : Record} (ht : s.Tests i n r)
    (hst : (s.station i).state ≠ .seated) (hf : r.findings &&& (s.typeEntry r).condemnMask ≠ 0) {u v : List RecNo}
    (hu : (s.updPort RingPort.loss).judgedOf (List.finRange 8) = u ++ n :: v) : s.lossAtStations.getRec n = some (
      if 32 ≤ s.dispatch.scrapList.length + (s.lossAtStations.scrapOf u).length then
        { r.condemnedAs .hold with holdReason := some .listFull }
      else if s.online .scrapCell = false then { r.condemnedAs .hold with holdReason := some .scrapOffline }
      else if s.dispatch.routes.length + u.length < 4 then { r.condemnedAs .scrapPending with passedBy := 0 }
      else { r.condemnedAs .hold with holdReason := some .routeUnconfirmed }) := by
  obtain ⟨l, l', hl, hrec⟩ := lossAtStations_getRec law ht
  have nodup : (l ++ i :: l').Nodup := hl ▸ List.nodup_finRange 8
  have before := (List.nodup_append.mp nodup).1
  have tests := recordLaw_tests law
  have kept := losses_kept before (s := s.updPort RingPort.loss) rfl
  have place : u = (s.updPort RingPort.loss).judgedOf l := judgedOf_split tests nodup ht.1 hst (hl ▸ hu)
  have entry : ((s.updPort RingPort.loss).losses l).typeEntry r = s.typeEntry r := kept.typeEntry r
  have online : ((s.updPort RingPort.loss).losses l).online .scrapCell = s.online .scrapCell := kept.online .scrapCell
  have scrap : ((s.updPort RingPort.loss).losses l).dispatch.scrapList = s.dispatch.scrapList ++ s.lossAtStations.scrapOf u := by
    unfold State.lossAtStations
    rw [hl, place]
    exact scrapList_losses tests rfl nodup
  have routes : ((s.updPort RingPort.loss).losses l).dispatch.routes.length < 4 ↔ s.dispatch.routes.length + u.length < 4 :=
    place ▸ routes_losses tests rfl before
  rw [hrec, if_neg hst, lossRecord_condemned (by rw [entry]; exact hf), scrap, online, List.length_append]
  simp only [routes]

/-- Settles O37: the blocks in the order of `lose`; under the record law the judged tests by `lossAtStations_judges`, each
test's record by its own station's loss. -/
theorem ringLossStopsTheRing : Obligations.RingLossStopsTheRing := by
  intro s tested judged raised
  refine ⟨fun h => ?_, fun hup hsilent => ?_⟩
  · refine congrArg Host.Outcome.next (if_neg fun hs => ?_)
    obtain ⟨hup, hlate⟩ := (lineSilent_iff s).mp hs
    exact h.elim (fun hd => by rw [hup] at hd; cases hd) fun hn => hn hlate
  have kept := lossAtStations_kept s
  obtain ⟨table, hlose, unheld, held⟩ := lose_spec s
  let z := s.lossAtStations
  have getRec (n : RecNo) : s.lose.getRec n = table[n] := by rw [hlose]; rfl
  have station (i : StationNo) : s.lose.station i = if (s.station i).state.watched = true then (s.station i).resynced
      else s.station i := by
    have stations : s.lose.station i = z.station i := by rw [hlose]; rfl
    rw [stations]
    unfold z State.lossAtStations
    refine (station_losses (List.nodup_finRange 8) _ i).trans (if_congr ?_ rfl rfl)
    exact and_iff_right (List.mem_finRange i)
  refine ⟨s.lose, congrArg Host.Outcome.next (if_pos ((lineSilent_iff s).mpr ⟨hup, hsilent⟩)), ?_, ?_, fun i => ⟨fun hw => ?_,
    fun hw => ?_⟩, fun n hn hfree => ?_, ?_, fun k => ?_, ?_, ?_, ?_, ?_, fun law => ?_⟩
  · rw [hlose]
    exact kept.line.port
  · obtain ⟨l, m, hl, hls, hms, hd⟩ := kept.dispatch
    refine ⟨l, m, hl, hls, hms, ?_⟩
    rw [hlose]
    simp only [hd]
    rfl
  · rw [station, if_pos hw]
    rfl
  · rw [station, if_neg (Bool.not_eq_true _ ▸ hw)]
  · rw [getRec, unheld n hfree]
    exact kept.records n hn
  · rw [hlose]
    exact kept.table
  · rw [hlose]
    exact kept.banks k
  · rw [hlose]
  · rw [hlose]
    rfl
  · have mgmt := kept.line.mgmt
    rw [hlose]
    simp only [Prod.mk.injEq] at mgmt ⊢
    obtain ⟨store, sound, latched, calendar, -⟩ := mgmt
    exact ⟨kept.line.clock, kept.line.roles, store, sound, latched, calendar⟩
  · rw [hlose]
    simp only [Prod.mk.injEq]
    exact ⟨kept.line.cuts, kept.line.pending⟩
  intro order listed given
  have judges : State.Judges judged (s.updPort RingPort.loss) z := lossAtStations_judges law
  have ended {n : RecNo} (hn : n ∈ tested) : s.lose.getRec n = z.getRec n := by
    rw [getRec]
    exact unheld n fun a c hc e => tested_apart law hc (List.finRange 8) (e ▸ hn)
  have same : ∀ n ∈ judged, s.lose.getRec n = z.getRec n :=
    fun n hn => ended (judgedOf_sublist (List.finRange 8) (s.updPort RingPort.loss) n hn)
  have testedHas {i : StationNo} {n : RecNo} {r : Record} (ht : s.Tests i n r) : n ∈ tested :=
    List.mem_filterMap.mpr ⟨i, List.mem_finRange i, ht.1⟩
  refine ⟨?_, ?_, fun k => ?_, fun a c r hc hr => ?_, ?_, fun i n r ht => ?_⟩
  · have orders : judged.filterMap order = judged.filterMap z.laneOrderOf := State.Judges.laneOrders_congr same
    rw [orders, hlose]
    exact judges.routes
  · have scraps : listed judged = z.scrapOf judged := State.Judges.scrapOf_congr same
    rw [scraps, hlose]
    exact judges.scrapList
  · have count := State.Judges.countP_gaveUp_congr same (s.updPort RingPort.loss) k
    intro released
    have banks : s.lose.banks = z.banks := by rw [hlose]
    rw [banks, show released = _ from count]
    exact ⟨judges.refs k, judges.banks k⟩
  · rw [getRec]
    refine held a c r hc ?_ fun b d hd e => acting_apart law hc hd e
    exact (kept.records c.record (tested_apart law hc _)).trans hr
  · have condemned : given (.condemn .finding) = _ := State.Judges.countP_hasVerdict_congr same (.condemn .finding)
    have retested : given (.retest .ringLoss) = _ := State.Judges.countP_hasVerdict_congr same (.retest .ringLoss)
    rw [condemned, retested, hlose]
    show Tallies.add z.mgmt.tallies s.mgmt.notices.length .dropped = _
    rw [judges.tallies]
    simp only [Tallies.add, satAdd_raisedBy]
    rfl
  · intro found q
    obtain ⟨l, l', hl, hrec⟩ := lossAtStations_getRec law ht
    have nodup : l.Nodup := (List.nodup_append.mp (hl ▸ List.nodup_finRange 8)).1
    have entry : ((s.updPort RingPort.loss).losses l).typeEntry r = s.typeEntry r :=
      (losses_kept nodup (s := s.updPort RingPort.loss) rfl).typeEntry r
    have record := (ended (testedHas ht)).trans hrec
    refine ⟨fun hst f hf => ?_, fun hst hno hb => ?_, fun hst hno hb => ?_, fun hst hf u v hu => ?_⟩
    · rw [record, if_pos hst, returned, hf]
    · rw [record, if_neg hst, lossRecord_budget (by rw [entry]; exact hno) hb]
    · rw [record, if_neg hst, lossRecord_spent (by rw [entry]; exact hno) hb]
    · intro c heldAs full room
      have condemned := (ended (testedHas ht)).trans (lossAtStations_condemned law ht hst hf hu)
      have scraps : z.scrapOf u = listed u := (State.Judges.scrapOf_congr fun m hm =>
        same m (hu ▸ List.mem_append_left _ hm)).symm
      rw [scraps] at condemned
      refine ⟨fun h => condemned.trans ?_, fun h ho => condemned.trans ?_, fun h ho hr => condemned.trans ?_,
        fun h ho hr => condemned.trans ?_⟩
      · rw [if_pos h]; rfl
      · rw [if_neg h, if_pos ho]; rfl
      · rw [if_neg h, if_neg (by rw [ho]; decide), if_neg hr]; rfl
      · rw [if_neg h, if_neg (by rw [ho]; decide), if_pos hr]; rfl

end Sys2Proof.Machine
end
